-- ==== Sys2Proof/Word.lean ====
section
/-! DEFINITION. The two word types of the block and their plainest arithmetic (00_scope R5, R9). -/

namespace Sys2Proof

/-- The input unit, the length and control fields and every buffer element: 8 bits (R5). -/
abbrev Byte := BitVec 8

/-- Addresses and CRC values: 16 bits (R5). -/
abbrev Half := BitVec 16

/-- `le16(lo, hi) = zext_16(lo) | (zext_16(hi) << 8)` (30_encoding R55). -/
def le16 (lo hi : Byte) : Half := lo.setWidth 16 ||| (hi.setWidth 16 <<< 8)

/-- The byte a little-endian 16-bit field puts first on the wire (R38). -/
def Half.low (h : Half) : Byte := h.setWidth 8

/-- The byte a little-endian 16-bit field puts second on the wire (R38). -/
def Half.high (h : Half) : Byte := (h >>> 8).setWidth 8

end Sys2Proof
end

