-- ==== Sys2Proof/Config.lean ====
section
/-! DEFINITION. What an implementation fixes: the constants of 00_scope R4, the parameters of R6 and R7, the pins of
45_stream R135, and the free values (outputs the spec leaves unspecified). -/

namespace Sys2Proof

/-! ## Constants that are not parameters (R4) -/

/-- First sync byte. -/
abbrev SYNC1 : Byte := 0x05#8
/-- Second sync byte. -/
abbrev SYNC2 : Byte := 0x64#8
/-- Header bytes, sync bytes included. -/
abbrev HDR_SIZE : Nat := 10
/-- Header bytes the header CRC covers. -/
abbrev HDR_CRC_SPAN : Nat := 8
/-- Smallest legal length byte. -/
abbrev MIN_LEN : Nat := 5
/-- User-data bytes of a full body block. -/
abbrev BLOCK_DATA : Nat := 16
/-- CRC bytes of a block. -/
abbrev BLOCK_CRC : Nat := 2
/-- Most user-data bytes of a frame. -/
abbrev MAX_USER_DATA : Nat := 250
/-- Bytes of the body buffer. -/
abbrev MAX_BODY : Nat := 282

/-! ## Parameters (R6, R7) -/

/-- The build-time parameters. The model takes them as an argument; the defaults the spec gives are `Config.standard`
(Machine/Defaults.lean). -/
structure Config where
  /-- `CRC16 : List Byte -> UInt16` (R6, 44_crc16 R116). -/
  crc16 : List Byte → Half
  /-- `NAMED_FUNCTIONS`: the masked control values that decode to a named function (R6, 40_control R75); a list
  for the spec's finite set, read by membership only (log 17). -/
  named : List Byte
  /-- `EVT_LATENCY`: cycles from accepting a completing byte to raising `evt_valid` (R7, 45_stream R136). -/
  evtLatency : Nat
  /-- `PL_READ_LATENCY`: cycles from `pl_addr` to `pl_data` (R7, R138). -/
  plReadLatency : Nat

/-! ## Pins (R135). `clk` is not a field: one step of the machine is one rising edge. -/

/-- The input pins in one cycle. -/
structure Pins where
  rst     : Bool
  inValid : Bool
  inData  : Byte
  evtAck  : Bool
  plAddr  : Byte
deriving DecidableEq, Repr

/-- A cycle in which nothing is driven: no reset, no byte offered, no acknowledge. DESIGN CHOICE (log 3): the cycles
after the scheduled ones. -/
def Pins.idle : Pins := { rst := false, inValid := false, inData := 0#8, evtAck := false, plAddr := 0#8 }

/-- A cycle in which the host offers `b`. -/
def Pins.offer (b : Byte) : Pins := { Pins.idle with inValid := true, inData := b }

/-- A cycle in which the consumer acknowledges. -/
def Pins.ack : Pins := { Pins.idle with evtAck := true }

/-- A cycle in which the consumer presents a payload address. -/
def Pins.read (a : Byte) : Pins := { Pins.idle with plAddr := a }

/-- A cycle with `rst = 1`. -/
def Pins.reset : Pins := { Pins.idle with rst := true }

/-- The output pins in one cycle. -/
structure Ports where
  inReady      : Bool
  evtValid     : Bool
  evtKind      : BitVec 2
  evtLen       : Byte
  hdrCtrl      : Byte
  hdrFunc      : Byte
  hdrFuncKnown : Bool
  hdrDir       : Bool
  hdrFcb       : Bool
  hdrFcv       : Bool
  hdrDest      : Half
  hdrSrc       : Half
  plLen        : Byte
  plData       : Byte
deriving DecidableEq, Repr, Inhabited

/-! ## Free values -/

/-- FREE VALUE (log 4): the outputs in a cycle where the spec leaves them unspecified ("any value", 93 section 1;
45_stream R137, R138), one record per cycle. No body: nothing can be proved of its value. -/
opaque Config.freePorts : Nat → Ports

end Sys2Proof
end

