-- ==== Sys2Proof/Machine/Crc.lean ====
section
/-! DEFINITION. The default `CRC16`, CRC-16/DNP, as the byte-serial procedure of 44_crc16 R118, and its table form (R119). The
algorithm is the spec's default from general knowledge (G1; log 6). -/

namespace Sys2Proof.Machine

/-- One shift: `if crc[0] = 1: crc <- (crc >> 1) ^ 0xA6BC else: crc <- crc >> 1` (R118). -/
def crcShift (crc : Half) : Half :=
  if crc.getLsbD 0 then (crc >>> 1) ^^^ 0xA6BC#16 else crc >>> 1

/-- `n` shifts. -/
def crcShifts : Nat → Half → Half
  | 0, crc => crc
  | n + 1, crc => crcShifts n (crcShift crc)

/-- One byte: `crc <- crc ^ zext_16(b)`, then 8 shifts (R118). -/
def crcByte (crc : Half) (b : Byte) : Half := crcShifts 8 (crc ^^^ b.setWidth 16)

/-- The register after the bytes `bs`, before the final exclusive-or (R118, R123). -/
def crcRegister (bs : List Byte) : Half := bs.foldl crcByte 0x0000#16

/-- `CRC16` of R118. -/
def crcDnp (bs : List Byte) : Half := crcRegister bs ^^^ 0xFFFF#16

/-- `T[i]`: "the register obtained from `crc = i` after the 8 shift steps" (R119). -/
def crcTable (i : Byte) : Half := crcShifts 8 (i.setWidth 16)

/-- One byte in table form: `crc <- (crc >> 8) ^ T[(crc ^ b) & 0xFF]` (R119). -/
def crcByteByTable (crc : Half) (b : Byte) : Half :=
  (crc >>> 8) ^^^ crcTable ((crc ^^^ b.setWidth 16).setWidth 8)

/-- `CRC16` in table form (R119). -/
def crcDnpByTable (bs : List Byte) : Half := bs.foldl crcByteByTable 0x0000#16 ^^^ 0xFFFF#16

end Sys2Proof.Machine
end

