-- ==== Sys2Proof/Machine/Defaults.lean ====
section
/-! DEFINITION. The defaults the spec gives the parameters (00_scope R6, R7; 40_control R75; 44_crc16 R118). -/

namespace Sys2Proof

/-- The default `NAMED_FUNCTIONS`, the nine values of R75 (general knowledge, G4; log 6). -/
def defaultNamed : List Byte :=
  [0x40#8, 0x42#8, 0x43#8, 0x44#8, 0x49#8, 0x00#8, 0x01#8, 0x0B#8, 0x0F#8]

/-- The parameters at their defaults: what `exec` and `step` run with. -/
def Config.standard : Config :=
  { crc16 := Machine.crcDnp, named := defaultNamed, evtLatency := 1, plReadLatency := 0 }

end Sys2Proof
end

