-- ==== Sys2Proof/Machine/State.lean ====
section
/-! DEFINITION. The state of the machine as plain data, its reset value, the events it reports, and the named reasons for a
stop. -/

namespace Sys2Proof.Machine

/-! ## The abstract state (10_state R15): the triple the source calls its one piece of long-lived data -/

/-- The sequencing state, "exactly one of" four variants (R16). The counters are naturals (00_scope R10); their ranges in
reachable states are R17, R18 (`Phase.wf`, Safety.lean). -/
inductive Phase where
  /-- "initial/idle state": hunting for 0x05. -/
  | awaitingSync1
  /-- "first sync byte matched". -/
  | awaitingSync2
  /-- `n` header bytes are in `hdr`. -/
  | accumulatingHeader (n : Nat)
  /-- `r` body bytes are in `body`, `rem` are still due, `udl` user-data bytes are carried. -/
  | accumulatingBody (r rem udl : Nat)
deriving DecidableEq, Repr

/-- A byte buffer: cells in rising index order, none equal to 0x00; an unlisted index reads 0x00, the reset contents of
both buffers (R31; log 15). `Buffer.wf` (Machine/Memory.lean) is the canonical form. -/
abbrev Buffer := List Host.Cell

/-- The parser's state `{ phase, hdr, body }` (R15). -/
structure Parser where
  phase : Phase
  /-- Header buffer, indices 0..9 (R19). -/
  hdr   : Buffer
  /-- Body buffer, indices 0..281 (R20). -/
  body  : Buffer
deriving DecidableEq, Repr

/-- The source's `new()`: `AwaitingSync1` with zeroed buffers (R31). -/
def Parser.reset : Parser := { phase := .awaitingSync1, hdr := [], body := [] }

/-! ## Events (45_stream R125) -/

/-- `Named(fn)` or the escape `Unknown(fn)`, carrying the masked value (40_control R67, R72). -/
inductive LinkFunction where
  | named (fn : Byte)
  | unknown (fn : Byte)
deriving DecidableEq, Repr

/-- The control decoder's result (R67). -/
structure ControlFields where
  function : LinkFunction
  isMaster : Bool
  fcb      : Bool
  fcv      : Bool
deriving DecidableEq, Repr

/-- `Header = { control, destination, source }` (42_header R100, R125). -/
structure Header where
  control     : ControlFields
  destination : Half
  source      : Half
deriving DecidableEq, Repr

/-- The three error kinds (60_exceptions R141). -/
inductive ParseError where
  | badLength (rawLength : Byte)
  | badHeaderCrc
  | badBodyCrc
deriving DecidableEq, Repr

/-- One report to the consumer (R125). -/
inductive Event where
  | frame (header : Header) (payload : List Byte)
  | error (e : ParseError)
deriving DecidableEq, Repr

/-! ## The machine -/

structure State where
  /-- The abstract state (R15). -/
  parser   : Parser
  /-- Event register: an event is pending (R26). -/
  evtValid : Bool
  /-- Event register: its kind (R26, R142). -/
  evtKind  : BitVec 2
  /-- Cycles until `evt_valid` rises, 0 when no event is due (45_stream R136, `EVT_LATENCY`). -/
  evtWait  : Nat
  /-- Payload addresses of earlier cycles of the pending event, newest first, as many as `PL_READ_LATENCY` (R138). -/
  plPipe   : List Byte
  /-- The input pins still to be driven, one record a rising edge, oldest first (R135). -/
  pins     : List Pins
  /-- The output pins as driven in the last cycle (R135): a record of wires, which no rule reads. -/
  ports    : Ports
  /-- The bytes accepted since reset, in order (R139; log 11). -/
  stream   : List Byte
  /-- The events emitted since reset, in order (R133; log 11). -/
  events   : List Event
  /-- The events released since reset, as read at the ports, in order (R139; log 11). -/
  released : List Event
  /-- The model's own: the argument of the free values `Config.freePorts`, one a cycle (log 4). -/
  freeTick : Nat
deriving DecidableEq, Repr

/-- What the model puts in `ports` before the first cycle: `in_ready` and `evt_valid` 0 (R136, R158 for the reset cycle);
the other outputs have no meaning there (R137): DESIGN CHOICE zero (log 2). -/
def Ports.atReset : Ports :=
  { inReady := false, evtValid := false, evtKind := 0#2, evtLen := 0#8, hdrCtrl := 0#8, hdrFunc := 0#8,
    hdrFuncKnown := false, hdrDir := false, hdrFcb := false, hdrFcv := false, hdrDest := 0#16, hdrSrc := 0#16,
    plLen := 0#8, plData := 0#8 }

/-- The machine after reset (10_state R31, 70_reset R157): hunting, both buffers zero, no event pending or due, nothing
accepted, no pins scheduled. `evtKind` (unspecified while `evtValid = 0`) and `freeTick` are DESIGN CHOICE (log 2, 4). -/
def State.reset : State :=
  { parser := Parser.reset, evtValid := false, evtKind := 0#2, evtWait := 0, plPipe := [], pins := [],
    ports := Ports.atReset, stream := [], events := [], released := [], freeTick := 0 }

/-! ## Stops. The block itself has none (93_implementation_defined "`fault`: never used; the block has no fault"). -/

/-- Why the machine stops with a fault. -/
inductive Fault where
  /-- A body operation met counters that point outside the 282-byte body buffer. Raised by `Parser.bodyAcc`,
  `Parser.bodyBadCrc` and `Parser.bodyFrame`. No reachable state raises it (20_memory R37; 93: "refuse (cannot occur)").
  SAFE: the model stops where the spec says the situation cannot occur (log 5). -/
  | outsideBuffer
deriving DecidableEq, Repr

/-- Why the machine has no move. -/
inductive Refusal where
  /-- No meaning yet for the instruction of this mnemonic. SAFE. No arm of `exec` answers it. -/
  | notModelled (mnemonic : String)
  /-- An operation was asked for in a phase that is not its operand (the "Operands" of its rule, R60). Raised by the twelve
  input-byte operations; the decoder never selects one there, so `step` never raises it. SAFE (log 8). -/
  | notSelected
deriving DecidableEq, Repr

/-- The outcome of an instruction or a step on the whole machine. -/
abbrev Out := Host.Outcome State Fault Refusal

/-- The outcome of an operation on the abstract state: the new state and the events it emitted (00_scope R12). -/
abbrev OpResult := Host.Outcome (Parser × List Event) Fault Refusal

end Sys2Proof.Machine
end

