-- ==== Sys2Proof/Machine/Memory.lean ====
section
/-! DEFINITION. Reading and writing a buffer (00_scope R11 `hdr[i]`, `hdr[i] <- v`, `hdr[a..b]`; 20_memory R40: one byte at a
time). A buffer is a list of cells in one canonical form, so that equal buffers are equal data. -/

namespace Sys2Proof.Machine

/-- Byte `a` of a buffer; an unlisted index reads 0x00 (10_state R31). -/
def Buffer.read (m : Buffer) (a : Nat) : Byte :=
  match m with
  | [] => 0#8
  | (k, v) :: rest => if a < k then 0#8 else if a = k then v else Buffer.read rest a

/-- Byte `a` of a buffer becomes `v`; writing 0x00 takes the cell out. -/
def Buffer.write (m : Buffer) (a : Nat) (v : Byte) : Buffer :=
  match m with
  | [] => if v = 0#8 then [] else [(a, v)]
  | (k, x) :: rest =>
    if a < k then (if v = 0#8 then (k, x) :: rest else (a, v) :: (k, x) :: rest)
    else if a = k then (if v = 0#8 then rest else (a, v) :: rest)
    else (k, x) :: Buffer.write rest a v

/-- The `len` bytes from index `a` on, in order. -/
def Buffer.slice (m : Buffer) (a len : Nat) : List Byte :=
  (List.range len).map fun i => Buffer.read m (a + i)

/-- The cells from index `lo` on are in rising order, below `size`, and none holds 0x00. -/
def Buffer.wfFrom (lo size : Nat) (m : Buffer) : Bool :=
  match m with
  | [] => true
  | (k, v) :: rest => decide (lo ≤ k) && decide (k < size) && v != 0#8 && Buffer.wfFrom (k + 1) size rest

/-- The canonical form of a buffer of `size` bytes. -/
def Buffer.wf (size : Nat) (m : Buffer) : Bool := Buffer.wfFrom 0 size m

end Sys2Proof.Machine
end

