-- ==== Sys2Proof/Machine/Operands.lean ====
section
/-! DEFINITION. Operand forms: the fields of the header and the geometry of the body (20_memory R35, R36; 30_encoding R55, R56;
43_body R105, R106, R113). -/

namespace Sys2Proof.Machine

/-! ## Geometry of the body (R105, R106) -/

/-- `body_size(udl)`: bytes of the body region (R105). -/
def bodySize (udl : Nat) : Nat :=
  18 * (udl / 16) + (if udl % 16 = 0 then 0 else udl % 16 + 2)

/-- `nblk = ceil(udl / 16)` (R106). -/
def blockCount (udl : Nat) : Nat := (udl + 15) / 16

/-- `L_k = min(16, udl - 16*k)`: data bytes of block `k` (R106). -/
def blockLen (udl k : Nat) : Nat := min 16 (udl - 16 * k)

/-- The body offset at which block `k` starts (R106). -/
def blockStart (k : Nat) : Nat := 18 * k

/-- The body offset of payload byte `i` (R36). -/
def payloadIndex (i : Nat) : Nat := 18 * (i / 16) + i % 16

/-! ## Header fields (R19, R55, R56) -/

/-- `hdr[2]`, the length byte. -/
def lengthByte (hdr : Buffer) : Byte := hdr.read 2

/-- `hdr[3]`, the control byte. -/
def ctrlByte (hdr : Buffer) : Byte := hdr.read 3

/-- `le16(hdr[4], hdr[5])`. -/
def destination (hdr : Buffer) : Half := le16 (hdr.read 4) (hdr.read 5)

/-- `le16(hdr[6], hdr[7])`. -/
def source (hdr : Buffer) : Half := le16 (hdr.read 6) (hdr.read 7)

/-- `le16(hdr[8], hdr[9])`. -/
def headerCrc (hdr : Buffer) : Half := le16 (hdr.read 8) (hdr.read 9)

/-- `hdr[0..7]`, the bytes the header CRC covers (42_header R98). -/
def headerSpan (hdr : Buffer) : List Byte := hdr.slice 0 HDR_CRC_SPAN

/-- `udl = hdr[2] - 5` (R56); the length check has passed wherever it is used. -/
def userDataLength (hdr : Buffer) : Nat := (lengthByte hdr).toNat - MIN_LEN

/-! ## Body fields -/

/-- The data bytes of block `k` (R110). -/
def blockData (body : Buffer) (udl k : Nat) : List Byte := body.slice (blockStart k) (blockLen udl k)

/-- The CRC stored after block `k`'s data (R55). -/
def blockCrc (body : Buffer) (udl k : Nat) : Half :=
  le16 (body.read (blockStart k + blockLen udl k)) (body.read (blockStart k + blockLen udl k + 1))

/-- The payload: `[ body[18*(i / 16) + (i % 16)] for i in 0 .. udl-1 ]` (R113). -/
def payload (body : Buffer) (udl : Nat) : List Byte :=
  (List.range udl).map fun i => body.read (payloadIndex i)

/-! ## Checks (R98, R110) -/

/-- The header CRC matches, on all 16 bits (R98). -/
def headerCrcOk (cfg : Config) (hdr : Buffer) : Bool := cfg.crc16 (headerSpan hdr) == headerCrc hdr

/-- Block `k` passes (R110). -/
def blockOk (cfg : Config) (body : Buffer) (udl k : Nat) : Bool :=
  cfg.crc16 (blockData body udl k) == blockCrc body udl k

/-- Every block passes, checked left to right (R109). -/
def blocksOk (cfg : Config) (body : Buffer) (udl : Nat) : Bool :=
  (List.range (blockCount udl)).all fun k => blockOk cfg body udl k

end Sys2Proof.Machine
end

