-- ==== Sys2Proof/Machine/Flags.lean ====
section
/-! DEFINITION. The flag computations: the bits of the control byte (40_control R67..R72), the header value (42_header R100), and the
event codes (60_exceptions R142). The block has no condition codes (10_state R24). -/

namespace Sys2Proof

/-- `fn in NAMED_FUNCTIONS` (R75). -/
def Config.isNamed (cfg : Config) (fn : Byte) : Bool := cfg.named.contains fn

/-- `Named(fn)` or `Unknown(fn)` (R72). -/
def Config.function (cfg : Config) (fn : Byte) : Machine.LinkFunction :=
  if cfg.isNamed fn then .named fn else .unknown fn

end Sys2Proof

namespace Sys2Proof.Machine

/-! ## The control byte -/

/-- `fn = c & 0x4F` (R57, R72). -/
def functionValue (c : Byte) : Byte := c &&& 0x4F#8

/-- DIR, bit 7 (R68). -/
def dirBit (c : Byte) : Bool := c.getLsbD 7

/-- PRM, bit 6, not reported as a flag (R69). -/
def prmBit (c : Byte) : Bool := c.getLsbD 6

/-- FCB, bit 5 (R70). -/
def fcbBit (c : Byte) : Bool := c.getLsbD 5

/-- FCV/DFC, bit 4 (R71). -/
def fcvBit (c : Byte) : Bool := c.getLsbD 4

/-- The masked value a function carries (R72, R73 `hdr_func`). -/
def LinkFunction.value (f : LinkFunction) : Byte :=
  match f with
  | .named fn => fn
  | .unknown fn => fn

/-- Whether it is named (R73 `hdr_func_known`). -/
def LinkFunction.isNamed (f : LinkFunction) : Bool :=
  match f with
  | .named _ => true
  | .unknown _ => false

/-- `decode_control(c)` (R67): total and pure. -/
def decodeControl (cfg : Config) (c : Byte) : ControlFields :=
  { function := cfg.function (functionValue c), isMaster := dirBit c, fcb := fcbBit c, fcv := fcvBit c }

/-- `Header(hdr)` (R100). -/
def headerOf (cfg : Config) (hdr : Buffer) : Header :=
  { control := decodeControl cfg (ctrlByte hdr), destination := destination hdr, source := source hdr }

/-! ## Event codes -/

/-- `evt_kind` of an error (R142). -/
def ParseError.kind (e : ParseError) : BitVec 2 :=
  match e with
  | .badLength _ => 1#2
  | .badHeaderCrc => 2#2
  | .badBodyCrc => 3#2

/-- `evt_kind` of an event (R142). -/
def Event.kind (e : Event) : BitVec 2 :=
  match e with
  | .frame _ _ => 0#2
  | .error e => e.kind

end Sys2Proof.Machine
end

