-- ==== Sys2Proof/Machine/Ops.lean ====
section
/-! DEFINITION. The shared operations on the machine: ending an operation with an event and posting it in the event
register (the block's "exception entry", 60_exceptions R147), releasing it (its "return", R148), the clock-edge operations around
an instruction, and driving the control decoder's outputs. -/

namespace Sys2Proof.Machine

/-! ## On the abstract state -/

/-- ENTRY (R147): the completing operation emits one event and the phase becomes `AwaitingSync1` (R128). Nothing is saved.
Applied after the completing byte is written. -/
def Parser.finish (e : Event) (p : Parser) : Parser × List Event :=
  ({ p with phase := .awaitingSync1 }, [e])

/-- The end of an operation that emits nothing and moves to phase `ph`. -/
def Parser.goto (ph : Phase) (p : Parser) : Parser × List Event :=
  ({ p with phase := ph }, [])

/-! ## On the whole machine -/

/-- Sequencing of outcomes: the first fault or refusal ends the run. -/
def andThen {σ τ φ ρ : Type} (o : Host.Outcome σ φ ρ) (f : σ → Host.Outcome τ φ ρ) : Host.Outcome τ φ ρ :=
  match o with
  | .next s => f s
  | .fault r => .fault r
  | .refused r => .refused r

/-- Posting an emitted event (R147, 45_stream R136): it joins the run's events, and the event register takes its kind;
`evt_valid` rises with this edge when `EVT_LATENCY` is 1 (from the next cycle it is 1), `EVT_LATENCY - 1` cycles later
otherwise. A latency of 0 is taken as 1 (93: "natural number, at least 1"; log 9). -/
def State.raise (cfg : Config) (s : State) (e : Event) : State :=
  { s with events := s.events ++ [e], evtKind := e.kind, evtValid := decide (cfg.evtLatency ≤ 1),
           evtWait := cfg.evtLatency - 1 }

/-- The effect of an operation on the whole machine: the new abstract state, and its events posted in order. -/
def State.commit (cfg : Config) (s : State) (r : OpResult) : Out :=
  match r with
  | .next (p, evs) => .next (evs.foldl (State.raise cfg) { s with parser := p })
  | .fault f => .fault f
  | .refused why => .refused why

/-- The control decoder's result on its five outputs (R73). -/
def showControl (f : ControlFields) (o : Ports) : Ports :=
  { o with hdrFunc := f.function.value, hdrFuncKnown := f.function.isNamed, hdrDir := f.isMaster, hdrFcb := f.fcb,
           hdrFcv := f.fcv }

/-- The meaning every control-byte class shares (R67, R73): its fields on the decoder's outputs, nothing else. -/
def State.presentControl (cfg : Config) (fn : Byte) (dir fcb fcv : Bool) (s : State) : Out :=
  .next { s with ports := showControl { function := cfg.function fn, isMaster := dir, fcb := fcb, fcv := fcv } s.ports }

/-! ## Around an instruction: the clock edge -/

/-- The pins in the coming cycle; idle when none are scheduled (log 3). -/
def State.nextPins (s : State) : Pins :=
  match s.pins with
  | [] => Pins.idle
  | p :: _ => p

/-- A cycle goes by: its pins are consumed, and the free values move on. -/
def State.tick (s : State) : State := { s with pins := s.pins.tail, freeTick := s.freeTick + 1 }

/-- `in_ready` outside reset (45_stream R136): no event pending and none due. -/
def State.ready (s : State) : Bool := !s.evtValid && s.evtWait == 0

/-- The outputs of a cycle with `evt_valid = 0`: only `in_ready` and `evt_valid` are specified (R137); the others are free. -/
def State.quiet (ready : Bool) (s : State) : State :=
  { s with ports := { Config.freePorts s.freeTick with inReady := ready, evtValid := false } }

/-- A rising edge with `rst = 1` (70_reset R157, R158): every piece of state at its reset value; the pins still to come, the
record of this cycle's outputs and the free-value counter are not the block's state. -/
def State.resetEdge (s : State) : State :=
  { State.reset with pins := s.pins, ports := s.ports, freeTick := s.freeTick }

/-- A byte is accepted (R136): it joins the input stream. -/
def State.accept (b : Byte) (s : State) : State := { s with stream := s.stream ++ [b] }

/-- An edge while an event is due: one cycle less to wait; `evt_valid` rises when none is left (R136). -/
def State.latencyEdge (s : State) : State :=
  { s with evtWait := s.evtWait - 1, evtValid := decide (s.evtWait = 1) }

end Sys2Proof.Machine
end

