-- ==== Sys2Proof/Machine/Body.lean ====
section
/-! DEFINITION. The body segmenter, block CRC validator and payload reassembler (43_body): BODY_ACC, BODY_BAD_CRC, BODY_FRAME. The
body's phase is split as 45_stream R126 splits it: `rem > 1` accumulates, otherwise the byte completes the body. Counters that
point outside the 282-byte buffer (no reachable state has any, 20_memory R37) stop the machine by name (log 5); `rem = 0`: log 10. -/

namespace Sys2Proof.Machine

/-- `body[r] <- b; phase <- AccumulatingBody(r + 1, rem - 1, udl)` (R107). -/
def Parser.bodyAcc (p : Parser) (b : Byte) : OpResult :=
  match p.phase with
  | .accumulatingBody r rem udl =>
    if rem > 1 then
      if r < MAX_BODY then
        .next (Parser.goto (.accumulatingBody (r + 1) (rem - 1) udl) { p with body := p.body.write r b })
      else .fault .outsideBuffer
    else .refused .notSelected
  | _ => .refused .notSelected

/-- What the two completing operations share (R109): the byte is written to `body[r]`, and `k` ends the frame of `udl` bytes. -/
def Parser.bodyEnd (p : Parser) (b : Byte) (k : Nat → Parser → Parser × List Event) : OpResult :=
  match p.phase with
  | .accumulatingBody r rem udl =>
    if rem > 1 then .refused .notSelected
    else if r < MAX_BODY ∧ bodySize udl ≤ MAX_BODY then .next (k udl { p with body := p.body.write r b })
    else .fault .outsideBuffer
  | _ => .refused .notSelected

/-- `body[r] <- b; emit Error(BadBodyCRC); phase <- AwaitingSync1` (R114). -/
def Parser.bodyBadCrc (p : Parser) (b : Byte) : OpResult :=
  p.bodyEnd b fun _ q => Parser.finish (.error .badBodyCrc) q

/-- `body[r] <- b; emit Frame(Header(hdr), payload(udl)); phase <- AwaitingSync1` (R115). -/
def Parser.bodyFrame (p : Parser) (cfg : Config) (b : Byte) : OpResult :=
  p.bodyEnd b fun udl q => Parser.finish (.frame (headerOf cfg q.hdr) (payload q.body udl)) q

/-- BODY_ACC (R107). -/
def execBodyAcc (b : Byte) (s : State) : Out := s.commit Config.standard (s.parser.bodyAcc b)

/-- BODY_BAD_CRC (R114). -/
def execBodyBadCrc (b : Byte) (s : State) : Out := s.commit Config.standard (s.parser.bodyBadCrc b)

/-- BODY_FRAME (R115). -/
def execBodyFrame (b : Byte) (s : State) : Out :=
  s.commit Config.standard (s.parser.bodyFrame Config.standard b)

end Sys2Proof.Machine
end

