-- ==== Sys2Proof/Machine/Control.lean ====
section
/-! DEFINITION. The thirty-two control-byte classes (40_control R76..R85), one meaning each over the one shared operation
`State.presentControl`: the class's function value, named or unknown as `NAMED_FUNCTIONS` says, and the three open bits, driven on the
control decoder's outputs (R73). Nothing else changes (R67 "No errors, no side effects"). -/

namespace Sys2Proof.Machine

/-- RESET_LINK_STATES (R76): `function <- Named(0x40)` by default. -/
def execResetLinkStates (dir fcb fcv : Bool) (s : State) : Out :=
  s.presentControl Config.standard 0x40#8 dir fcb fcv

/-- UNKNOWN_41 (R85): `function <- Unknown(0x41)` by default. -/
def execUnknown41 (dir fcb fcv : Bool) (s : State) : Out :=
  s.presentControl Config.standard 0x41#8 dir fcb fcv

/-- TEST_LINK_STATES (R77): `function <- Named(0x42)` by default. -/
def execTestLinkStates (dir fcb fcv : Bool) (s : State) : Out :=
  s.presentControl Config.standard 0x42#8 dir fcb fcv

/-- CONFIRMED_USER_DATA (R78): `function <- Named(0x43)` by default. -/
def execConfirmedUserData (dir fcb fcv : Bool) (s : State) : Out :=
  s.presentControl Config.standard 0x43#8 dir fcb fcv

/-- UNCONFIRMED_USER_DATA (R79): `function <- Named(0x44)` by default. -/
def execUnconfirmedUserData (dir fcb fcv : Bool) (s : State) : Out :=
  s.presentControl Config.standard 0x44#8 dir fcb fcv

/-- UNKNOWN_45 (R85): `function <- Unknown(0x45)` by default. -/
def execUnknown45 (dir fcb fcv : Bool) (s : State) : Out :=
  s.presentControl Config.standard 0x45#8 dir fcb fcv

/-- UNKNOWN_46 (R85): `function <- Unknown(0x46)` by default. -/
def execUnknown46 (dir fcb fcv : Bool) (s : State) : Out :=
  s.presentControl Config.standard 0x46#8 dir fcb fcv

/-- UNKNOWN_47 (R85): `function <- Unknown(0x47)` by default. -/
def execUnknown47 (dir fcb fcv : Bool) (s : State) : Out :=
  s.presentControl Config.standard 0x47#8 dir fcb fcv

/-- UNKNOWN_48 (R85): `function <- Unknown(0x48)` by default. -/
def execUnknown48 (dir fcb fcv : Bool) (s : State) : Out :=
  s.presentControl Config.standard 0x48#8 dir fcb fcv

/-- REQUEST_LINK_STATUS (R80): `function <- Named(0x49)` by default. -/
def execRequestLinkStatus (dir fcb fcv : Bool) (s : State) : Out :=
  s.presentControl Config.standard 0x49#8 dir fcb fcv

/-- UNKNOWN_4A (R85): `function <- Unknown(0x4A)` by default. -/
def execUnknown4a (dir fcb fcv : Bool) (s : State) : Out :=
  s.presentControl Config.standard 0x4A#8 dir fcb fcv

/-- UNKNOWN_4B (R85): `function <- Unknown(0x4B)` by default. -/
def execUnknown4b (dir fcb fcv : Bool) (s : State) : Out :=
  s.presentControl Config.standard 0x4B#8 dir fcb fcv

/-- UNKNOWN_4C (R85): `function <- Unknown(0x4C)` by default. -/
def execUnknown4c (dir fcb fcv : Bool) (s : State) : Out :=
  s.presentControl Config.standard 0x4C#8 dir fcb fcv

/-- UNKNOWN_4D (R85): `function <- Unknown(0x4D)` by default. -/
def execUnknown4d (dir fcb fcv : Bool) (s : State) : Out :=
  s.presentControl Config.standard 0x4D#8 dir fcb fcv

/-- UNKNOWN_4E (R85): `function <- Unknown(0x4E)` by default. -/
def execUnknown4e (dir fcb fcv : Bool) (s : State) : Out :=
  s.presentControl Config.standard 0x4E#8 dir fcb fcv

/-- UNKNOWN_4F (R85): `function <- Unknown(0x4F)` by default. -/
def execUnknown4f (dir fcb fcv : Bool) (s : State) : Out :=
  s.presentControl Config.standard 0x4F#8 dir fcb fcv

/-- ACK (R81): `function <- Named(0x00)` by default. -/
def execAck (dir fcb fcv : Bool) (s : State) : Out :=
  s.presentControl Config.standard 0x00#8 dir fcb fcv

/-- NACK (R82): `function <- Named(0x01)` by default. -/
def execNack (dir fcb fcv : Bool) (s : State) : Out :=
  s.presentControl Config.standard 0x01#8 dir fcb fcv

/-- UNKNOWN_02 (R85): `function <- Unknown(0x02)` by default. -/
def execUnknown02 (dir fcb fcv : Bool) (s : State) : Out :=
  s.presentControl Config.standard 0x02#8 dir fcb fcv

/-- UNKNOWN_03 (R85): `function <- Unknown(0x03)` by default. -/
def execUnknown03 (dir fcb fcv : Bool) (s : State) : Out :=
  s.presentControl Config.standard 0x03#8 dir fcb fcv

/-- UNKNOWN_04 (R85): `function <- Unknown(0x04)` by default. -/
def execUnknown04 (dir fcb fcv : Bool) (s : State) : Out :=
  s.presentControl Config.standard 0x04#8 dir fcb fcv

/-- UNKNOWN_05 (R85): `function <- Unknown(0x05)` by default. -/
def execUnknown05 (dir fcb fcv : Bool) (s : State) : Out :=
  s.presentControl Config.standard 0x05#8 dir fcb fcv

/-- UNKNOWN_06 (R85): `function <- Unknown(0x06)` by default. -/
def execUnknown06 (dir fcb fcv : Bool) (s : State) : Out :=
  s.presentControl Config.standard 0x06#8 dir fcb fcv

/-- UNKNOWN_07 (R85): `function <- Unknown(0x07)` by default. -/
def execUnknown07 (dir fcb fcv : Bool) (s : State) : Out :=
  s.presentControl Config.standard 0x07#8 dir fcb fcv

/-- UNKNOWN_08 (R85): `function <- Unknown(0x08)` by default. -/
def execUnknown08 (dir fcb fcv : Bool) (s : State) : Out :=
  s.presentControl Config.standard 0x08#8 dir fcb fcv

/-- UNKNOWN_09 (R85): `function <- Unknown(0x09)` by default. -/
def execUnknown09 (dir fcb fcv : Bool) (s : State) : Out :=
  s.presentControl Config.standard 0x09#8 dir fcb fcv

/-- UNKNOWN_0A (R85): `function <- Unknown(0x0A)` by default. -/
def execUnknown0a (dir fcb fcv : Bool) (s : State) : Out :=
  s.presentControl Config.standard 0x0A#8 dir fcb fcv

/-- LINK_STATUS (R83): `function <- Named(0x0B)` by default. -/
def execLinkStatus (dir fcb fcv : Bool) (s : State) : Out :=
  s.presentControl Config.standard 0x0B#8 dir fcb fcv

/-- UNKNOWN_0C (R85): `function <- Unknown(0x0C)` by default. -/
def execUnknown0c (dir fcb fcv : Bool) (s : State) : Out :=
  s.presentControl Config.standard 0x0C#8 dir fcb fcv

/-- UNKNOWN_0D (R85): `function <- Unknown(0x0D)` by default. -/
def execUnknown0d (dir fcb fcv : Bool) (s : State) : Out :=
  s.presentControl Config.standard 0x0D#8 dir fcb fcv

/-- UNKNOWN_0E (R85): `function <- Unknown(0x0E)` by default. -/
def execUnknown0e (dir fcb fcv : Bool) (s : State) : Out :=
  s.presentControl Config.standard 0x0E#8 dir fcb fcv

/-- NOT_SUPPORTED (R84): `function <- Named(0x0F)` by default. -/
def execNotSupported (dir fcb fcv : Bool) (s : State) : Out :=
  s.presentControl Config.standard 0x0F#8 dir fcb fcv

end Sys2Proof.Machine
end

