-- ==== Sys2Proof/Machine/Header.lean ====
section
/-! DEFINITION. The header accumulator and validator (42_header): HDR_ACC and the four completing operations. The header's phase is
split as 45_stream R126 splits it: `n + 1 < 10` accumulates, otherwise the byte completes the header. Which completing
operation applies (the checks of R96) is the decoder's matter. Counters no reachable state has: log 10. -/

namespace Sys2Proof.Machine

/-- `hdr[n] <- b; phase <- AccumulatingHeader(n + 1)` (R94; for `n` 0 and 1 by 92 D11). -/
def Parser.hdrAcc (p : Parser) (b : Byte) : OpResult :=
  match p.phase with
  | .accumulatingHeader n =>
    if n + 1 < HDR_SIZE then
      .next (Parser.goto (.accumulatingHeader (n + 1)) { p with hdr := p.hdr.write n b })
    else .refused .notSelected
  | _ => .refused .notSelected

/-- What the four completing operations share (R96): the phase is one whose next byte completes the header; the byte is
written to `hdr[9]`, and `k` does the rest. -/
def Parser.hdrEnd (p : Parser) (b : Byte) (k : Parser → Parser × List Event) : OpResult :=
  match p.phase with
  | .accumulatingHeader n =>
    if n + 1 < HDR_SIZE then .refused .notSelected
    else .next (k { p with hdr := p.hdr.write 9 b })
  | _ => .refused .notSelected

/-- `hdr[9] <- b; emit Error(BadLength(hdr[2])); phase <- AwaitingSync1` (R101). -/
def Parser.hdrBadLength (p : Parser) (b : Byte) : OpResult :=
  p.hdrEnd b fun q => Parser.finish (.error (.badLength (lengthByte q.hdr))) q

/-- `hdr[9] <- b; emit Error(BadHeaderCRC); phase <- AwaitingSync1` (R102). -/
def Parser.hdrBadCrc (p : Parser) (b : Byte) : OpResult :=
  p.hdrEnd b fun q => Parser.finish (.error .badHeaderCrc) q

/-- `hdr[9] <- b; emit Frame(Header(hdr), []); phase <- AwaitingSync1` (R103). -/
def Parser.hdrFrameEmpty (p : Parser) (cfg : Config) (b : Byte) : OpResult :=
  p.hdrEnd b fun q => Parser.finish (.frame (headerOf cfg q.hdr) []) q

/-- `hdr[9] <- b; udl <- hdr[2] - 5; phase <- AccumulatingBody(0, body_size(udl), udl)` (R104). -/
def Parser.hdrToBody (p : Parser) (b : Byte) : OpResult :=
  p.hdrEnd b fun q =>
    Parser.goto (.accumulatingBody 0 (bodySize (userDataLength q.hdr)) (userDataLength q.hdr)) q

/-- HDR_ACC (R94). -/
def execHdrAcc (b : Byte) (s : State) : Out := s.commit Config.standard (s.parser.hdrAcc b)

/-- HDR_BAD_LENGTH (R101). -/
def execHdrBadLength (b : Byte) (s : State) : Out := s.commit Config.standard (s.parser.hdrBadLength b)

/-- HDR_BAD_CRC (R102). -/
def execHdrBadCrc (b : Byte) (s : State) : Out := s.commit Config.standard (s.parser.hdrBadCrc b)

/-- HDR_FRAME_EMPTY (R103). -/
def execHdrFrameEmpty (b : Byte) (s : State) : Out :=
  s.commit Config.standard (s.parser.hdrFrameEmpty Config.standard b)

/-- HDR_TO_BODY (R104). -/
def execHdrToBody (b : Byte) (s : State) : Out := s.commit Config.standard (s.parser.hdrToBody b)

end Sys2Proof.Machine
end

