-- ==== Sys2Proof/Machine/Sync.lean ====
section
/-! DEFINITION. The sync-pattern detector (41_sync): SYNC1_HIT, SYNC1_SKIP, SYNC2_HIT, SYNC2_MISS. Each is first an operation on
the abstract state; the meaning commits it to the machine. None emits an event (R91). -/

namespace Sys2Proof.Machine

/-- `hdr[0] <- b; phase <- AwaitingSync2` (R87). -/
def Parser.sync1Hit (p : Parser) (b : Byte) : OpResult :=
  match p.phase with
  | .awaitingSync1 => .next (Parser.goto .awaitingSync2 { p with hdr := p.hdr.write 0 b })
  | _ => .refused .notSelected

/-- The byte is discarded; the phase is unchanged (R88). -/
def Parser.sync1Skip (p : Parser) (_b : Byte) : OpResult :=
  match p.phase with
  | .awaitingSync1 => .next (Parser.goto .awaitingSync1 p)
  | _ => .refused .notSelected

/-- `hdr[1] <- b; phase <- AccumulatingHeader(2)` (R89). -/
def Parser.sync2Hit (p : Parser) (b : Byte) : OpResult :=
  match p.phase with
  | .awaitingSync2 => .next (Parser.goto (.accumulatingHeader 2) { p with hdr := p.hdr.write 1 b })
  | _ => .refused .notSelected

/-- The byte is discarded even when it is 0x05; `phase <- AwaitingSync1` (R90). -/
def Parser.sync2Miss (p : Parser) (_b : Byte) : OpResult :=
  match p.phase with
  | .awaitingSync2 => .next (Parser.goto .awaitingSync1 p)
  | _ => .refused .notSelected

/-- SYNC1_HIT (R87). -/
def execSync1Hit (s : State) : Out := s.commit Config.standard (s.parser.sync1Hit SYNC1)

/-- SYNC1_SKIP (R88). -/
def execSync1Skip (b : Byte) (s : State) : Out := s.commit Config.standard (s.parser.sync1Skip b)

/-- SYNC2_HIT (R89). -/
def execSync2Hit (s : State) : Out := s.commit Config.standard (s.parser.sync2Hit SYNC2)

/-- SYNC2_MISS (R90). -/
def execSync2Miss (b : Byte) (s : State) : Out := s.commit Config.standard (s.parser.sync2Miss b)

end Sys2Proof.Machine
end

