-- ==== Sys2Proof/Syntax.lean ====
section
/-! DEFINITION. The 44 rows of spec/opcode_table.json, one constructor each. Twelve input-byte operations (30_encoding
R60), whose operand is the accepted byte, and thirty-two classes of the control byte (R61, 40_control R67), whose
operands are the three bits the class leaves open: DIR (bit 7), FCB (bit 5), FCV (bit 4). -/

namespace Sys2Proof

inductive Instr where
  /-- SYNC1_HIT: `AwaitingSync1`, byte 0x05 (R87). The byte is the encoding itself. -/
  | sync1Hit
  /-- SYNC1_SKIP: `AwaitingSync1`, a byte `b` other than 0x05 (R88). -/
  | sync1Skip (b : Byte)
  /-- SYNC2_HIT: `AwaitingSync2`, byte 0x64 (R89). The byte is the encoding itself. -/
  | sync2Hit
  /-- SYNC2_MISS: `AwaitingSync2`, a byte `b` other than 0x64 (R90). -/
  | sync2Miss (b : Byte)
  /-- HDR_ACC: `AccumulatingHeader(n)`, `n + 1 < 10`, byte `b` (R94). -/
  | hdrAcc (b : Byte)
  /-- HDR_BAD_LENGTH: The byte `b` completes a header whose length byte is below 5 (R101). -/
  | hdrBadLength (b : Byte)
  /-- HDR_BAD_CRC: The byte `b` completes a header of good length whose CRC does not match (R102). -/
  | hdrBadCrc (b : Byte)
  /-- HDR_FRAME_EMPTY: The byte `b` completes a good header of length 5 (R103). -/
  | hdrFrameEmpty (b : Byte)
  /-- HDR_TO_BODY: The byte `b` completes a good header of length above 5 (R104). -/
  | hdrToBody (b : Byte)
  /-- BODY_ACC: `AccumulatingBody(r, rem, udl)`, `rem > 1`, byte `b` (R107). -/
  | bodyAcc (b : Byte)
  /-- BODY_BAD_CRC: The byte `b` completes a body of which some block fails its CRC (R114). -/
  | bodyBadCrc (b : Byte)
  /-- BODY_FRAME: The byte `b` completes a body of which every block passes (R115). -/
  | bodyFrame (b : Byte)
  /-- RESET_LINK_STATES: `c & 0x4F = 0x40` (R76). -/
  | resetLinkStates (dir fcb fcv : Bool)
  /-- UNKNOWN_41: `c & 0x4F = 0x41` (R85). -/
  | unknown41 (dir fcb fcv : Bool)
  /-- TEST_LINK_STATES: `c & 0x4F = 0x42` (R77). -/
  | testLinkStates (dir fcb fcv : Bool)
  /-- CONFIRMED_USER_DATA: `c & 0x4F = 0x43` (R78). -/
  | confirmedUserData (dir fcb fcv : Bool)
  /-- UNCONFIRMED_USER_DATA: `c & 0x4F = 0x44` (R79). -/
  | unconfirmedUserData (dir fcb fcv : Bool)
  /-- UNKNOWN_45: `c & 0x4F = 0x45` (R85). -/
  | unknown45 (dir fcb fcv : Bool)
  /-- UNKNOWN_46: `c & 0x4F = 0x46` (R85). -/
  | unknown46 (dir fcb fcv : Bool)
  /-- UNKNOWN_47: `c & 0x4F = 0x47` (R85). -/
  | unknown47 (dir fcb fcv : Bool)
  /-- UNKNOWN_48: `c & 0x4F = 0x48` (R85). -/
  | unknown48 (dir fcb fcv : Bool)
  /-- REQUEST_LINK_STATUS: `c & 0x4F = 0x49` (R80). -/
  | requestLinkStatus (dir fcb fcv : Bool)
  /-- UNKNOWN_4A: `c & 0x4F = 0x4A` (R85). -/
  | unknown4a (dir fcb fcv : Bool)
  /-- UNKNOWN_4B: `c & 0x4F = 0x4B` (R85). -/
  | unknown4b (dir fcb fcv : Bool)
  /-- UNKNOWN_4C: `c & 0x4F = 0x4C` (R85). -/
  | unknown4c (dir fcb fcv : Bool)
  /-- UNKNOWN_4D: `c & 0x4F = 0x4D` (R85). -/
  | unknown4d (dir fcb fcv : Bool)
  /-- UNKNOWN_4E: `c & 0x4F = 0x4E` (R85). -/
  | unknown4e (dir fcb fcv : Bool)
  /-- UNKNOWN_4F: `c & 0x4F = 0x4F` (R85). -/
  | unknown4f (dir fcb fcv : Bool)
  /-- ACK: `c & 0x4F = 0x00` (R81). -/
  | ack (dir fcb fcv : Bool)
  /-- NACK: `c & 0x4F = 0x01` (R82). -/
  | nack (dir fcb fcv : Bool)
  /-- UNKNOWN_02: `c & 0x4F = 0x02` (R85). -/
  | unknown02 (dir fcb fcv : Bool)
  /-- UNKNOWN_03: `c & 0x4F = 0x03` (R85). -/
  | unknown03 (dir fcb fcv : Bool)
  /-- UNKNOWN_04: `c & 0x4F = 0x04` (R85). -/
  | unknown04 (dir fcb fcv : Bool)
  /-- UNKNOWN_05: `c & 0x4F = 0x05` (R85). -/
  | unknown05 (dir fcb fcv : Bool)
  /-- UNKNOWN_06: `c & 0x4F = 0x06` (R85). -/
  | unknown06 (dir fcb fcv : Bool)
  /-- UNKNOWN_07: `c & 0x4F = 0x07` (R85). -/
  | unknown07 (dir fcb fcv : Bool)
  /-- UNKNOWN_08: `c & 0x4F = 0x08` (R85). -/
  | unknown08 (dir fcb fcv : Bool)
  /-- UNKNOWN_09: `c & 0x4F = 0x09` (R85). -/
  | unknown09 (dir fcb fcv : Bool)
  /-- UNKNOWN_0A: `c & 0x4F = 0x0A` (R85). -/
  | unknown0a (dir fcb fcv : Bool)
  /-- LINK_STATUS: `c & 0x4F = 0x0B` (R83). -/
  | linkStatus (dir fcb fcv : Bool)
  /-- UNKNOWN_0C: `c & 0x4F = 0x0C` (R85). -/
  | unknown0c (dir fcb fcv : Bool)
  /-- UNKNOWN_0D: `c & 0x4F = 0x0D` (R85). -/
  | unknown0d (dir fcb fcv : Bool)
  /-- UNKNOWN_0E: `c & 0x4F = 0x0E` (R85). -/
  | unknown0e (dir fcb fcv : Bool)
  /-- NOT_SUPPORTED: `c & 0x4F = 0x0F` (R84). -/
  | notSupported (dir fcb fcv : Bool)
deriving DecidableEq, Repr

end Sys2Proof
end

