-- ==== Sys2Proof/Machine/Dispatch.lean ====
section
/-! DEFINITION. One arm per constructor of Instr: the meaning each row of spec/opcode_table.json has. -/

namespace Sys2Proof.Machine

def exec (i : Instr) (s : State) : Host.Outcome State Fault Refusal :=
  match i with
  | .sync1Hit => Sys2Proof.Machine.execSync1Hit s
  | .sync1Skip b => Sys2Proof.Machine.execSync1Skip b s
  | .sync2Hit => Sys2Proof.Machine.execSync2Hit s
  | .sync2Miss b => Sys2Proof.Machine.execSync2Miss b s
  | .hdrAcc b => Sys2Proof.Machine.execHdrAcc b s
  | .hdrBadLength b => Sys2Proof.Machine.execHdrBadLength b s
  | .hdrBadCrc b => Sys2Proof.Machine.execHdrBadCrc b s
  | .hdrFrameEmpty b => Sys2Proof.Machine.execHdrFrameEmpty b s
  | .hdrToBody b => Sys2Proof.Machine.execHdrToBody b s
  | .bodyAcc b => Sys2Proof.Machine.execBodyAcc b s
  | .bodyBadCrc b => Sys2Proof.Machine.execBodyBadCrc b s
  | .bodyFrame b => Sys2Proof.Machine.execBodyFrame b s
  | .resetLinkStates dir fcb fcv => Sys2Proof.Machine.execResetLinkStates dir fcb fcv s
  | .unknown41 dir fcb fcv => Sys2Proof.Machine.execUnknown41 dir fcb fcv s
  | .testLinkStates dir fcb fcv => Sys2Proof.Machine.execTestLinkStates dir fcb fcv s
  | .confirmedUserData dir fcb fcv => Sys2Proof.Machine.execConfirmedUserData dir fcb fcv s
  | .unconfirmedUserData dir fcb fcv => Sys2Proof.Machine.execUnconfirmedUserData dir fcb fcv s
  | .unknown45 dir fcb fcv => Sys2Proof.Machine.execUnknown45 dir fcb fcv s
  | .unknown46 dir fcb fcv => Sys2Proof.Machine.execUnknown46 dir fcb fcv s
  | .unknown47 dir fcb fcv => Sys2Proof.Machine.execUnknown47 dir fcb fcv s
  | .unknown48 dir fcb fcv => Sys2Proof.Machine.execUnknown48 dir fcb fcv s
  | .requestLinkStatus dir fcb fcv => Sys2Proof.Machine.execRequestLinkStatus dir fcb fcv s
  | .unknown4a dir fcb fcv => Sys2Proof.Machine.execUnknown4a dir fcb fcv s
  | .unknown4b dir fcb fcv => Sys2Proof.Machine.execUnknown4b dir fcb fcv s
  | .unknown4c dir fcb fcv => Sys2Proof.Machine.execUnknown4c dir fcb fcv s
  | .unknown4d dir fcb fcv => Sys2Proof.Machine.execUnknown4d dir fcb fcv s
  | .unknown4e dir fcb fcv => Sys2Proof.Machine.execUnknown4e dir fcb fcv s
  | .unknown4f dir fcb fcv => Sys2Proof.Machine.execUnknown4f dir fcb fcv s
  | .ack dir fcb fcv => Sys2Proof.Machine.execAck dir fcb fcv s
  | .nack dir fcb fcv => Sys2Proof.Machine.execNack dir fcb fcv s
  | .unknown02 dir fcb fcv => Sys2Proof.Machine.execUnknown02 dir fcb fcv s
  | .unknown03 dir fcb fcv => Sys2Proof.Machine.execUnknown03 dir fcb fcv s
  | .unknown04 dir fcb fcv => Sys2Proof.Machine.execUnknown04 dir fcb fcv s
  | .unknown05 dir fcb fcv => Sys2Proof.Machine.execUnknown05 dir fcb fcv s
  | .unknown06 dir fcb fcv => Sys2Proof.Machine.execUnknown06 dir fcb fcv s
  | .unknown07 dir fcb fcv => Sys2Proof.Machine.execUnknown07 dir fcb fcv s
  | .unknown08 dir fcb fcv => Sys2Proof.Machine.execUnknown08 dir fcb fcv s
  | .unknown09 dir fcb fcv => Sys2Proof.Machine.execUnknown09 dir fcb fcv s
  | .unknown0a dir fcb fcv => Sys2Proof.Machine.execUnknown0a dir fcb fcv s
  | .linkStatus dir fcb fcv => Sys2Proof.Machine.execLinkStatus dir fcb fcv s
  | .unknown0c dir fcb fcv => Sys2Proof.Machine.execUnknown0c dir fcb fcv s
  | .unknown0d dir fcb fcv => Sys2Proof.Machine.execUnknown0d dir fcb fcv s
  | .unknown0e dir fcb fcv => Sys2Proof.Machine.execUnknown0e dir fcb fcv s
  | .notSupported dir fcb fcv => Sys2Proof.Machine.execNotSupported dir fcb fcv s

end Sys2Proof.Machine
end

