-- ==== Sys2Proof/WellFormed.lean ====
section
/-! DEFINITION. Which terms of `Instr` stand for an encoding: a skipped byte is not the byte its reader matches (30_encoding
R60: SYNC1_SKIP is selected when `b != 0x05`, SYNC2_MISS when `b != 0x64`). Every other operand may have any value. -/

namespace Sys2Proof

/-- The operand checks of the opcode table. -/
def WellFormed (i : Instr) : Bool :=
  match i with
  | .sync1Skip b => b != SYNC1
  | .sync2Miss b => b != SYNC2
  | .sync1Hit => true
  | .sync2Hit => true
  | .hdrAcc _ => true
  | .hdrBadLength _ => true
  | .hdrBadCrc _ => true
  | .hdrFrameEmpty _ => true
  | .hdrToBody _ => true
  | .bodyAcc _ => true
  | .bodyBadCrc _ => true
  | .bodyFrame _ => true
  | .resetLinkStates _ _ _ => true
  | .unknown41 _ _ _ => true
  | .testLinkStates _ _ _ => true
  | .confirmedUserData _ _ _ => true
  | .unconfirmedUserData _ _ _ => true
  | .unknown45 _ _ _ => true
  | .unknown46 _ _ _ => true
  | .unknown47 _ _ _ => true
  | .unknown48 _ _ _ => true
  | .requestLinkStatus _ _ _ => true
  | .unknown4a _ _ _ => true
  | .unknown4b _ _ _ => true
  | .unknown4c _ _ _ => true
  | .unknown4d _ _ _ => true
  | .unknown4e _ _ _ => true
  | .unknown4f _ _ _ => true
  | .ack _ _ _ => true
  | .nack _ _ _ => true
  | .unknown02 _ _ _ => true
  | .unknown03 _ _ _ => true
  | .unknown04 _ _ _ => true
  | .unknown05 _ _ _ => true
  | .unknown06 _ _ _ => true
  | .unknown07 _ _ _ => true
  | .unknown08 _ _ _ => true
  | .unknown09 _ _ _ => true
  | .unknown0a _ _ _ => true
  | .linkStatus _ _ _ => true
  | .unknown0c _ _ _ => true
  | .unknown0d _ _ _ => true
  | .unknown0e _ _ _ => true
  | .notSupported _ _ _ => true

end Sys2Proof
end

