-- ==== Sys2Proof/Decode.lean ====
section
/-! DEFINITION. The decoder and, after it, the encoder.

The block has no instruction words: a BYTE is read, and what it means depends on which unit reads it (30_encoding R60
for the twelve input-byte operations, R61 for the control byte). So the decoder takes the reader of the byte, with the
facts R60's "selected when" column names, and the byte. It is total: no byte is illegal for any reader (R62, R64); the
only rejection is by name, for an empty input. Which reader is active is the machine's matter (Machine/Fetch.lean). -/

namespace Sys2Proof

/-- Who reads the byte: the "phase" and "selected when" columns of R60 less the byte itself, or the control-byte
decoder (R61). -/
inductive Reader where
  /-- Phase `AwaitingSync1`. -/
  | sync1
  /-- Phase `AwaitingSync2`. -/
  | sync2
  /-- Phase `AccumulatingHeader(n)` with `n + 1 < 10`. -/
  | header
  /-- The byte completes a header with length byte `len`; `crcOk`: its CRC matches. -/
  | headerEnd (len : Byte) (crcOk : Bool)
  /-- Phase `AccumulatingBody(r, rem, udl)` with `rem > 1`. -/
  | body
  /-- The byte completes a body; `blocksOk`: every block CRC matches. -/
  | bodyEnd (blocksOk : Bool)
  /-- The control-byte decoder. -/
  | control
deriving DecidableEq, Repr

/-- The class of a control byte from its PRM bit and its FUNC field, with the three open bits as operands (R61;
opcode_table.json rows with mask 0x4F). -/
def controlClass (prm : Bool) (func : Fin 16) (dir fcb fcv : Bool) : Instr :=
  match prm with
  | true => match func with
    | ⟨0, _⟩ => .resetLinkStates dir fcb fcv
    | ⟨1, _⟩ => .unknown41 dir fcb fcv
    | ⟨2, _⟩ => .testLinkStates dir fcb fcv
    | ⟨3, _⟩ => .confirmedUserData dir fcb fcv
    | ⟨4, _⟩ => .unconfirmedUserData dir fcb fcv
    | ⟨5, _⟩ => .unknown45 dir fcb fcv
    | ⟨6, _⟩ => .unknown46 dir fcb fcv
    | ⟨7, _⟩ => .unknown47 dir fcb fcv
    | ⟨8, _⟩ => .unknown48 dir fcb fcv
    | ⟨9, _⟩ => .requestLinkStatus dir fcb fcv
    | ⟨10, _⟩ => .unknown4a dir fcb fcv
    | ⟨11, _⟩ => .unknown4b dir fcb fcv
    | ⟨12, _⟩ => .unknown4c dir fcb fcv
    | ⟨13, _⟩ => .unknown4d dir fcb fcv
    | ⟨14, _⟩ => .unknown4e dir fcb fcv
    | ⟨15, _⟩ => .unknown4f dir fcb fcv
    | ⟨_ + 16, h⟩ => absurd h (by omega)
  | false => match func with
    | ⟨0, _⟩ => .ack dir fcb fcv
    | ⟨1, _⟩ => .nack dir fcb fcv
    | ⟨2, _⟩ => .unknown02 dir fcb fcv
    | ⟨3, _⟩ => .unknown03 dir fcb fcv
    | ⟨4, _⟩ => .unknown04 dir fcb fcv
    | ⟨5, _⟩ => .unknown05 dir fcb fcv
    | ⟨6, _⟩ => .unknown06 dir fcb fcv
    | ⟨7, _⟩ => .unknown07 dir fcb fcv
    | ⟨8, _⟩ => .unknown08 dir fcb fcv
    | ⟨9, _⟩ => .unknown09 dir fcb fcv
    | ⟨10, _⟩ => .unknown0a dir fcb fcv
    | ⟨11, _⟩ => .linkStatus dir fcb fcv
    | ⟨12, _⟩ => .unknown0c dir fcb fcv
    | ⟨13, _⟩ => .unknown0d dir fcb fcv
    | ⟨14, _⟩ => .unknown0e dir fcb fcv
    | ⟨15, _⟩ => .notSupported dir fcb fcv
    | ⟨_ + 16, h⟩ => absurd h (by omega)

/-- The control byte's five fields (R52), each read once. -/
def decodeControlByte (c : Byte) : Instr :=
  controlClass (c.getLsbD 6) (c.setWidth 4).toFin (c.getLsbD 7) (c.getLsbD 5) (c.getLsbD 4)

/-- The operation a completing header byte selects (R60, in the order of 42_header R96: length, then CRC, then `L = 5`). -/
def decodeHeaderEnd (len : Byte) (crcOk : Bool) (b : Byte) : Instr :=
  if len.toNat < MIN_LEN then .hdrBadLength b
  else if !crcOk then .hdrBadCrc b
  else if len.toNat = MIN_LEN then .hdrFrameEmpty b
  else .hdrToBody b

/-- The instruction a byte is, for the unit that reads it. Total (R30, R60, R67). -/
def decode (rd : Reader) (b : Byte) : Instr :=
  match rd with
  | .sync1 => if b = SYNC1 then .sync1Hit else .sync1Skip b
  | .sync2 => if b = SYNC2 then .sync2Hit else .sync2Miss b
  | .header => .hdrAcc b
  | .headerEnd len crcOk => decodeHeaderEnd len crcOk b
  | .body => .bodyAcc b
  | .bodyEnd blocksOk => if blocksOk then .bodyFrame b else .bodyBadCrc b
  | .control => decodeControlByte b

/-- Why no instruction is read. -/
inductive DecodeError where
  /-- The input is empty: "a single step that consumes zero bytes ... ends the loop" (45_stream R131). -/
  | noByte
deriving DecidableEq, Repr

/-- Decoding from a byte list: the instruction and the bytes after it (every instruction is one byte, R12). -/
def decodeBytes (rd : Reader) (bs : List Byte) : Except DecodeError (Instr × List Byte) :=
  match bs with
  | [] => .error .noByte
  | b :: rest => .ok (decode rd b, rest)

/-! ## Encoder -/

/-- The control byte of class `fn` with the three open bits in place (R52 masks 0x80, 0x20, 0x10). -/
def controlByte (fn : Byte) (dir fcb fcv : Bool) : Byte :=
  fn ||| (if dir then 0x80#8 else 0#8) ||| (if fcb then 0x20#8 else 0#8) ||| (if fcv then 0x10#8 else 0#8)

/-- The byte of an instruction, from the same table. -/
def encode (i : Instr) : Byte :=
  match i with
  | .sync1Hit => SYNC1
  | .sync1Skip b => b
  | .sync2Hit => SYNC2
  | .sync2Miss b => b
  | .hdrAcc b => b
  | .hdrBadLength b => b
  | .hdrBadCrc b => b
  | .hdrFrameEmpty b => b
  | .hdrToBody b => b
  | .bodyAcc b => b
  | .bodyBadCrc b => b
  | .bodyFrame b => b
  | .resetLinkStates d f v => controlByte 0x40#8 d f v
  | .unknown41 d f v => controlByte 0x41#8 d f v
  | .testLinkStates d f v => controlByte 0x42#8 d f v
  | .confirmedUserData d f v => controlByte 0x43#8 d f v
  | .unconfirmedUserData d f v => controlByte 0x44#8 d f v
  | .unknown45 d f v => controlByte 0x45#8 d f v
  | .unknown46 d f v => controlByte 0x46#8 d f v
  | .unknown47 d f v => controlByte 0x47#8 d f v
  | .unknown48 d f v => controlByte 0x48#8 d f v
  | .requestLinkStatus d f v => controlByte 0x49#8 d f v
  | .unknown4a d f v => controlByte 0x4A#8 d f v
  | .unknown4b d f v => controlByte 0x4B#8 d f v
  | .unknown4c d f v => controlByte 0x4C#8 d f v
  | .unknown4d d f v => controlByte 0x4D#8 d f v
  | .unknown4e d f v => controlByte 0x4E#8 d f v
  | .unknown4f d f v => controlByte 0x4F#8 d f v
  | .ack d f v => controlByte 0x00#8 d f v
  | .nack d f v => controlByte 0x01#8 d f v
  | .unknown02 d f v => controlByte 0x02#8 d f v
  | .unknown03 d f v => controlByte 0x03#8 d f v
  | .unknown04 d f v => controlByte 0x04#8 d f v
  | .unknown05 d f v => controlByte 0x05#8 d f v
  | .unknown06 d f v => controlByte 0x06#8 d f v
  | .unknown07 d f v => controlByte 0x07#8 d f v
  | .unknown08 d f v => controlByte 0x08#8 d f v
  | .unknown09 d f v => controlByte 0x09#8 d f v
  | .unknown0a d f v => controlByte 0x0A#8 d f v
  | .linkStatus d f v => controlByte 0x0B#8 d f v
  | .unknown0c d f v => controlByte 0x0C#8 d f v
  | .unknown0d d f v => controlByte 0x0D#8 d f v
  | .unknown0e d f v => controlByte 0x0E#8 d f v
  | .notSupported d f v => controlByte 0x0F#8 d f v

/-- The readers under which `i` is the operation the table selects for its byte: the table's phase and condition
columns, row by row. -/
def Reader.selects (rd : Reader) (i : Instr) : Bool :=
  match rd, i with
  | .sync1, .sync1Hit => true
  | .sync1, .sync1Skip _ => true
  | .sync2, .sync2Hit => true
  | .sync2, .sync2Miss _ => true
  | .header, .hdrAcc _ => true
  | .headerEnd len _, .hdrBadLength _ => len.toNat < 5
  | .headerEnd len crcOk, .hdrBadCrc _ => 5 ≤ len.toNat && !crcOk
  | .headerEnd len crcOk, .hdrFrameEmpty _ => len.toNat = 5 && crcOk
  | .headerEnd len crcOk, .hdrToBody _ => 5 < len.toNat && crcOk
  | .body, .bodyAcc _ => true
  | .bodyEnd blocksOk, .bodyBadCrc _ => !blocksOk
  | .bodyEnd blocksOk, .bodyFrame _ => blocksOk
  | .control, .resetLinkStates _ _ _ => true
  | .control, .unknown41 _ _ _ => true
  | .control, .testLinkStates _ _ _ => true
  | .control, .confirmedUserData _ _ _ => true
  | .control, .unconfirmedUserData _ _ _ => true
  | .control, .unknown45 _ _ _ => true
  | .control, .unknown46 _ _ _ => true
  | .control, .unknown47 _ _ _ => true
  | .control, .unknown48 _ _ _ => true
  | .control, .requestLinkStatus _ _ _ => true
  | .control, .unknown4a _ _ _ => true
  | .control, .unknown4b _ _ _ => true
  | .control, .unknown4c _ _ _ => true
  | .control, .unknown4d _ _ _ => true
  | .control, .unknown4e _ _ _ => true
  | .control, .unknown4f _ _ _ => true
  | .control, .ack _ _ _ => true
  | .control, .nack _ _ _ => true
  | .control, .unknown02 _ _ _ => true
  | .control, .unknown03 _ _ _ => true
  | .control, .unknown04 _ _ _ => true
  | .control, .unknown05 _ _ _ => true
  | .control, .unknown06 _ _ _ => true
  | .control, .unknown07 _ _ _ => true
  | .control, .unknown08 _ _ _ => true
  | .control, .unknown09 _ _ _ => true
  | .control, .unknown0a _ _ _ => true
  | .control, .linkStatus _ _ _ => true
  | .control, .unknown0c _ _ _ => true
  | .control, .unknown0d _ _ _ => true
  | .control, .unknown0e _ _ _ => true
  | .control, .notSupported _ _ _ => true
  | _, _ => false

/-! ## The opcode table's words -/

/-- Which reader a word of the opcode table is meant for. A byte alone does not say (see above), so the rows are tried
from the most specific mask to the least: mask 0xFF (0x05 to the sync-1 reader, 0x64 to the sync-2 reader), then mask
0x4F (the control-byte decoder, every other byte). A row to which the table gives no bits (`nbits = 0`) is a byte of
zeros in the reset phase. DESIGN CHOICE (log 7). -/
def tableReader (nbits : Nat) (b : Byte) : Reader :=
  if nbits = 0 then .sync1
  else if b = SYNC1 then .sync1
  else if b = SYNC2 then .sync2
  else .control

/-- The bytes of a table word, first byte lowest: one byte, since every instruction is one byte. -/
def tableBytes (nbits w : Nat) : List Byte :=
  if nbits ≤ 8 ∧ w < 256 then [BitVec.ofNat 8 w] else []

/-- The instruction the decoder reads from a word numbered as opcode_table.json numbers it. -/
def decodeTableWord (nbits w : Nat) : Option Instr :=
  match tableBytes nbits w with
  | [] => none
  | b :: _ => some (decode (tableReader nbits b) b)

end Sys2Proof
end

