-- ==== Sys2Proof/Machine/Fetch.lean ====
section
/-! DEFINITION. What is read and by whom: the reader of an accepted byte, computed from the abstract state (30_encoding R60), the
control byte the control decoder reads (40_control R73), and where a table word is placed so that the next step runs it. -/

namespace Sys2Proof.Machine

/-- The reader of the next stream byte `b`. The completing byte takes part in its own checks: it is in `hdr[9]`, or
in `body[r]`, when they are made (R60, 42_header R96, 43_body R109). -/
def Parser.reader (cfg : Config) (p : Parser) (b : Byte) : Reader :=
  match p.phase with
  | .awaitingSync1 => .sync1
  | .awaitingSync2 => .sync2
  | .accumulatingHeader n =>
    if n + 1 < HDR_SIZE then .header
    else .headerEnd (lengthByte (p.hdr.write 9 b)) (headerCrcOk cfg (p.hdr.write 9 b))
  | .accumulatingBody r rem udl =>
    if rem > 1 then .body else .bodyEnd (blocksOk cfg (p.body.write r b) udl)

/-- The operation the accepted byte `b` is (R60). -/
def Parser.fetch (cfg : Config) (p : Parser) (b : Byte) : Instr := decode (p.reader cfg b) b

/-- The class of the control byte in `hdr[3]` (R61, R73), for every kind of event (log 14). -/
def Parser.fetchControl (p : Parser) : Instr := decode .control (ctrlByte p.hdr)

/-- A stream byte is the next thing the machine sees, in phase `ph`: no event pending or due, the byte offered on
the next edge (log 3). -/
def State.placeByte (ph : Phase) (b : Byte) (s : State) : State :=
  { s with parser := { s.parser with phase := ph }, evtValid := false, evtWait := 0, pins := Pins.offer b :: s.pins }

/-- A control byte is the next thing the control decoder sees: it is `hdr[3]` of a pending frame event (log 3). -/
def State.placeControl (c : Byte) (s : State) : State :=
  { s with parser := { s.parser with hdr := s.parser.hdr.write 3 c }, evtValid := true, evtKind := 0#2, evtWait := 0,
           pins := Pins.idle :: s.pins }

/-- The table word `b` placed for the reader the table means it for. -/
def State.placeWord (rd : Reader) (b : Byte) (s : State) : State :=
  match rd with
  | .sync1 => s.placeByte .awaitingSync1 b
  | .sync2 => s.placeByte .awaitingSync2 b
  | .header => s.placeByte (.accumulatingHeader 2) b
  | .headerEnd _ _ => s.placeByte (.accumulatingHeader 9) b
  | .body => s.placeByte (.accumulatingBody 0 3 1) b
  | .bodyEnd _ => s.placeByte (.accumulatingBody 2 1 1) b
  | .control => s.placeControl b

end Sys2Proof.Machine
end

