-- ==== Sys2Proof/Machine/Outputs.lean ====
section
/-! DEFINITION. The output pins while an event is pending (45_stream R135, R137, R138) and its release (R136). The five outputs of
the control decoder are driven by the control-byte class itself (Machine/Control.lean); this file drives the others. -/

namespace Sys2Proof.Machine

/-- `pl_len`: `hdr[2] - 5` for kind 0, 0 for the error kinds (R135). -/
def State.plLen (s : State) : Byte :=
  if s.evtKind = 0#2 then lengthByte s.parser.hdr - 5#8 else 0#8

/-- The payload byte at address `a`, where the spec gives one: a frame is pending and `a` is below `pl_len`
(R138). -/
def State.payloadAt (s : State) (a : Byte) : Option Byte :=
  if s.evtValid ∧ s.evtKind = 0#2 ∧ a.toNat < s.plLen.toNat then
    some (s.parser.body.read (payloadIndex a.toNat))
  else none

/-- The answer on `pl_data` in a cycle: to the address presented `PL_READ_LATENCY` cycles ago, within this event
(R138; log 13). `none`: unspecified. -/
def State.plAnswer (cfg : Config) (addr : Byte) (s : State) : Option Byte :=
  match (addr :: s.plPipe)[cfg.plReadLatency]? with
  | some a => s.payloadAt a
  | none => none

/-- The outputs of a cycle with an event pending, less the control decoder's (R135, R137). An unspecified `pl_data` is the
free value of the cycle. -/
def State.driveEvent (cfg : Config) (addr : Byte) (s : State) : State :=
  { s with ports := { s.ports with
      inReady := false, evtValid := true, evtKind := s.evtKind, evtLen := lengthByte s.parser.hdr,
      hdrCtrl := ctrlByte s.parser.hdr, hdrDest := destination s.parser.hdr, hdrSrc := source s.parser.hdr,
      plLen := s.plLen,
      plData := match s.plAnswer cfg addr with
        | some v => v
        | none => (Config.freePorts s.freeTick).plData } }

/-- The payload a consumer reads through the payload port, address by address (R138, R139). -/
def State.portPayload (s : State) : List Byte :=
  (List.range s.plLen.toNat).filterMap fun i => s.payloadAt (BitVec.ofNat 8 i)

/-- The event a consumer reads at the output pins (R139: the kind; for kind 0 the header outputs and the payload; for
kind 1 `evt_len`; log 11). -/
def eventAtPorts (o : Ports) (pl : List Byte) : Event :=
  if o.evtKind = 0#2 then
    .frame { control := { function := if o.hdrFuncKnown then .named o.hdrFunc else .unknown o.hdrFunc,
                          isMaster := o.hdrDir, fcb := o.hdrFcb, fcv := o.hdrFcv },
             destination := o.hdrDest, source := o.hdrSrc } pl
  else if o.evtKind = 1#2 then .error (.badLength o.evtLen)
  else if o.evtKind = 2#2 then .error .badHeaderCrc
  else .error .badBodyCrc

/-- RETURN (60_exceptions R148): the pending event is released; the consumer has read it, and `in_ready` opens with
the next cycle. Nothing else changes: the event register's kind, which the spec leaves unspecified while `evt_valid = 0` (R31, 93), keeps the
released event's (DESIGN CHOICE, log 18). -/
def State.release (s : State) : State :=
  { s with evtValid := false, plPipe := [], released := s.released ++ [eventAtPorts s.ports s.portPayload] }

/-- The edge that ends a cycle with an event pending: released when `evt_ack = 1`, held otherwise (R136). -/
def State.consumerEdge (cfg : Config) (p : Pins) (s : State) : State :=
  if p.evtAck then s.release else { s with plPipe := (p.plAddr :: s.plPipe).take cfg.plReadLatency }

end Sys2Proof.Machine
end

