-- ==== Sys2Proof/Machine/Cycle.lean ====
section
/-! DEFINITION. One rising edge of the clock around the instruction it runs, for any parameters and any dispatch (45_stream
R136, 70_reset R157, R158). -/

namespace Sys2Proof.Machine

/-- What an edge does, in this order of priority: reset; an event is pending (the control decoder reads `hdr[3]`, the
outputs are driven, the consumer may release); an event is due (wait); a byte is offered and accepted (the operation it
selects runs); nothing (hold, R156). The outputs of a reset cycle: log 12. One step is one edge: log 1. `run` is the meaning of an instruction. -/
def State.cycle (cfg : Config) (run : Instr → State → Out) (s : State) : Out :=
  if s.nextPins.rst then .next (s.tick.quiet false).resetEdge
  else if s.evtValid then
    andThen (run s.parser.fetchControl s.tick) fun t =>
      .next ((t.driveEvent cfg s.nextPins.plAddr).consumerEdge cfg s.nextPins)
  else if s.evtWait ≠ 0 then .next (s.tick.quiet false).latencyEdge
  else if s.nextPins.inValid then
    run (s.parser.fetch cfg s.nextPins.inData) ((s.tick.quiet true).accept s.nextPins.inData)
  else .next (s.tick.quiet true)

end Sys2Proof.Machine
end

