-- ==== Sys2Proof/Machine/Step.lean ====
section
/-! DEFINITION. The step of the machine: one rising edge with the default parameters; and where the step finds a table word. -/

namespace Sys2Proof.Machine

/-- One rising edge (Machine/Cycle.lean). -/
def step (s : State) : Host.Outcome State Fault Refusal := s.cycle Config.standard exec

/-- `s` with the table word `w` placed where the next step reads it, for the reader the table means it for (log 3, 7). -/
def State.withFetchWord (s : State) (nbits w : Nat) : State :=
  s.placeWord (tableReader nbits (BitVec.ofNat 8 w)) (BitVec.ofNat 8 w)

end Sys2Proof.Machine
end

