-- ==== Sys2Proof/Machine/Frames.lean ====
section
/-! DEFINITION. The spec's notation for input streams (30_encoding R66). A TEST AID ONLY: the block has no path that encodes frames
(00_scope R3), and no step of the machine uses this file. -/

namespace Sys2Proof.Machine

/-- `v` as two bytes, low first (R38). -/
def wire16 (v : Half) : List Byte := [v.low, v.high]

/-- The ten header bytes with length byte `len` and a matching CRC. -/
def frameHeader (cfg : Config) (len ctl : Byte) (dst src : Half) : List Byte :=
  let h := [SYNC1, SYNC2, len, ctl] ++ wire16 dst ++ wire16 src
  h ++ wire16 (cfg.crc16 h)

/-- Block `k` of the user data: 16 bytes, the last 1..16. -/
def dataBlock (d : List Byte) (k : Nat) : List Byte := (d.drop (16 * k)).take 16

/-- A block followed by its CRC. -/
def frameBlock (cfg : Config) (d : List Byte) (k : Nat) : List Byte :=
  dataBlock d k ++ wire16 (cfg.crc16 (dataBlock d k))

/-- The body region of the user data `d`. -/
def frameBody (cfg : Config) (d : List Byte) : List Byte :=
  (List.range (blockCount d.length)).flatMap (frameBlock cfg d)

/-- `FRAME_L(L, ctl, dst, src, d...)`: the length byte forced to `len`. -/
def frameL (cfg : Config) (len ctl : Byte) (dst src : Half) (d : List Byte) : List Byte :=
  frameHeader cfg len ctl dst src ++ frameBody cfg d

/-- `FRAME(ctl, dst, src, d...)`; `d` has 0..250 bytes. -/
def frame (cfg : Config) (ctl : Byte) (dst src : Half) (d : List Byte) : List Byte :=
  frameL cfg (BitVec.ofNat 8 (5 + d.length)) ctl dst src d

/-- Byte `i` of a stream exclusive-ored with `m`. -/
def xorAt (f : List Byte) (i : Nat) (m : Byte) : List Byte :=
  f.set i (f.getD i 0#8 ^^^ m)

/-- `BAD_HCRC(F)`: the header CRC low byte (byte 8) exclusive-ored with 0xFF. -/
def badHcrc (f : List Byte) : List Byte := xorAt f 8 0xFF#8

/-- `BAD_BCRC(F, k)`: the low CRC byte of body block `k` exclusive-ored with 0xFF; the frame's length byte gives the
geometry. -/
def badBcrc (f : List Byte) (k : Nat) : List Byte :=
  xorAt f (10 + blockStart k + blockLen ((f.getD 2 0#8).toNat - MIN_LEN) k) 0xFF#8

/-- `FLIP(F, i, j)`: bit `j` of byte `i` exclusive-ored. -/
def flipBit (f : List Byte) (i j : Nat) : List Byte := xorAt f i (1#8 <<< j)

/-- `NOISE(b0 b1 ...)`: the listed bytes. -/
def noise (bs : List Byte) : List Byte := bs

end Sys2Proof.Machine
end

