-- ==== Sys2Proof/Machine/Registers.lean ====
section
/-! DEFINITION. The phase as a hardware realisation holds it (10_state R27): a second view of the phase, computed, not stored. -/

namespace Sys2Proof.Machine

/-- The registers of R27. -/
structure PhaseRegs where
  ph  : BitVec 2
  n   : BitVec 4
  r   : BitVec 9
  rem : BitVec 9
  udl : BitVec 8
deriving DecidableEq, Repr

/-- The registers for a phase. A counter outside its phase is a don't-care (R31, 93): here it keeps what it held (DESIGN
CHOICE, log 19). -/
def Phase.toRegs (old : PhaseRegs) (ph : Phase) : PhaseRegs :=
  match ph with
  | .awaitingSync1 => { old with ph := 0#2 }
  | .awaitingSync2 => { old with ph := 1#2 }
  | .accumulatingHeader n => { old with ph := 2#2, n := BitVec.ofNat 4 n }
  | .accumulatingBody r rem udl =>
    { old with ph := 3#2, r := BitVec.ofNat 9 r, rem := BitVec.ofNat 9 rem, udl := BitVec.ofNat 8 udl }

/-- The phase the registers hold. -/
def PhaseRegs.toPhase (g : PhaseRegs) : Phase :=
  if g.ph = 0#2 then .awaitingSync1
  else if g.ph = 1#2 then .awaitingSync2
  else if g.ph = 2#2 then .accumulatingHeader g.n.toNat
  else .accumulatingBody g.r.toNat g.rem.toNat g.udl.toNat

end Sys2Proof.Machine
end

