-- ==== Sys2Proof/Machine/Parametric.lean ====
section
/-! DEFINITION. The machine for ANY parameters (00_scope R6, R7): the same meanings over `cfg` in place of the defaults.
At `Config.standard` this is `exec` and `step` (Laws/Ops.lean proves it). -/

namespace Sys2Proof.Machine

/-- The meaning of an instruction under the parameters `cfg`. -/
def execWith (cfg : Config) (i : Instr) (s : State) : Out :=
  match i with
  | .sync1Hit => s.commit cfg (s.parser.sync1Hit SYNC1)
  | .sync1Skip b => s.commit cfg (s.parser.sync1Skip b)
  | .sync2Hit => s.commit cfg (s.parser.sync2Hit SYNC2)
  | .sync2Miss b => s.commit cfg (s.parser.sync2Miss b)
  | .hdrAcc b => s.commit cfg (s.parser.hdrAcc b)
  | .hdrBadLength b => s.commit cfg (s.parser.hdrBadLength b)
  | .hdrBadCrc b => s.commit cfg (s.parser.hdrBadCrc b)
  | .hdrFrameEmpty b => s.commit cfg (s.parser.hdrFrameEmpty cfg b)
  | .hdrToBody b => s.commit cfg (s.parser.hdrToBody b)
  | .bodyAcc b => s.commit cfg (s.parser.bodyAcc b)
  | .bodyBadCrc b => s.commit cfg (s.parser.bodyBadCrc b)
  | .bodyFrame b => s.commit cfg (s.parser.bodyFrame cfg b)
  | .resetLinkStates d f v => s.presentControl cfg 0x40#8 d f v
  | .unknown41 d f v => s.presentControl cfg 0x41#8 d f v
  | .testLinkStates d f v => s.presentControl cfg 0x42#8 d f v
  | .confirmedUserData d f v => s.presentControl cfg 0x43#8 d f v
  | .unconfirmedUserData d f v => s.presentControl cfg 0x44#8 d f v
  | .unknown45 d f v => s.presentControl cfg 0x45#8 d f v
  | .unknown46 d f v => s.presentControl cfg 0x46#8 d f v
  | .unknown47 d f v => s.presentControl cfg 0x47#8 d f v
  | .unknown48 d f v => s.presentControl cfg 0x48#8 d f v
  | .requestLinkStatus d f v => s.presentControl cfg 0x49#8 d f v
  | .unknown4a d f v => s.presentControl cfg 0x4A#8 d f v
  | .unknown4b d f v => s.presentControl cfg 0x4B#8 d f v
  | .unknown4c d f v => s.presentControl cfg 0x4C#8 d f v
  | .unknown4d d f v => s.presentControl cfg 0x4D#8 d f v
  | .unknown4e d f v => s.presentControl cfg 0x4E#8 d f v
  | .unknown4f d f v => s.presentControl cfg 0x4F#8 d f v
  | .ack d f v => s.presentControl cfg 0x00#8 d f v
  | .nack d f v => s.presentControl cfg 0x01#8 d f v
  | .unknown02 d f v => s.presentControl cfg 0x02#8 d f v
  | .unknown03 d f v => s.presentControl cfg 0x03#8 d f v
  | .unknown04 d f v => s.presentControl cfg 0x04#8 d f v
  | .unknown05 d f v => s.presentControl cfg 0x05#8 d f v
  | .unknown06 d f v => s.presentControl cfg 0x06#8 d f v
  | .unknown07 d f v => s.presentControl cfg 0x07#8 d f v
  | .unknown08 d f v => s.presentControl cfg 0x08#8 d f v
  | .unknown09 d f v => s.presentControl cfg 0x09#8 d f v
  | .unknown0a d f v => s.presentControl cfg 0x0A#8 d f v
  | .linkStatus d f v => s.presentControl cfg 0x0B#8 d f v
  | .unknown0c d f v => s.presentControl cfg 0x0C#8 d f v
  | .unknown0d d f v => s.presentControl cfg 0x0D#8 d f v
  | .unknown0e d f v => s.presentControl cfg 0x0E#8 d f v
  | .notSupported d f v => s.presentControl cfg 0x0F#8 d f v

/-- One rising edge under the parameters `cfg`. -/
def stepWith (cfg : Config) (s : State) : Out := s.cycle cfg (execWith cfg)

/-- `k` rising edges under the parameters `cfg`, stopping at the first fault or refusal. -/
def runWith (cfg : Config) : Nat → State → Out
  | 0, s => .next s
  | k + 1, s => andThen (stepWith cfg s) (runWith cfg k)

end Sys2Proof.Machine
end

