-- ==== Sys2Proof/Machine/Stream.lean ====
section
/-! DEFINITION. The normative abstract model (45_stream R126, R129): `step` on the phase as the spec writes it, without the decoder, and
`decode`, its left fold. The port-level machine refines it (R139). -/

namespace Sys2Proof.Machine

/-- `complete_header` (42_header R96): write, then the first branch that applies. -/
def Parser.completeHeader (cfg : Config) (p : Parser) (b : Byte) : OpResult :=
  let hdr := p.hdr.write 9 b
  if (lengthByte hdr).toNat < MIN_LEN then p.hdrBadLength b
  else if cfg.crc16 (headerSpan hdr) ≠ headerCrc hdr then p.hdrBadCrc b
  else if (lengthByte hdr).toNat = MIN_LEN then p.hdrFrameEmpty cfg b
  else p.hdrToBody b

/-- `complete_body` (43_body R109): write, then the blocks left to right. -/
def Parser.completeBody (cfg : Config) (p : Parser) (r udl : Nat) (b : Byte) : OpResult :=
  if blocksOk cfg (p.body.write r b) udl then p.bodyFrame cfg b else p.bodyBadCrc b

/-- `step(s, b)` (R126). -/
def Parser.step (cfg : Config) (p : Parser) (b : Byte) : OpResult :=
  match p.phase with
  | .awaitingSync1 => if b = SYNC1 then p.sync1Hit b else p.sync1Skip b
  | .awaitingSync2 => if b = SYNC2 then p.sync2Hit b else p.sync2Miss b
  | .accumulatingHeader n => if n + 1 < HDR_SIZE then p.hdrAcc b else p.completeHeader cfg b
  | .accumulatingBody r rem udl => if rem > 1 then p.bodyAcc b else p.completeBody cfg r udl b

/-- `decode(s, bytes)` (R129): each byte in order, its events before the next byte's. -/
def Parser.decode (cfg : Config) : Parser → List Byte → OpResult
  | p, [] => .next (p, [])
  | p, b :: bs =>
    andThen (p.step cfg b) fun r1 => andThen (Parser.decode cfg r1.1 bs) fun r2 => .next (r2.1, r1.2 ++ r2.2)

end Sys2Proof.Machine
end

