-- ==== Sys2Proof/Safety.lean ====
section
/-! DEFINITION. The terms claims are stated in: the invariants of reachable states (10_state R17, R18, R28, R29), the selection table
of 30_encoding R60 as a relation, what an operation leaves alone, the refinement of 45_stream R139, stale bytes (10_state R21), and
the duties of the host and the consumer (R140, R168, R169). -/

namespace Sys2Proof.Machine

/-! ## Invariants -/

/-- The counter ranges of a stored phase (R17, R18). -/
def Phase.wf (ph : Phase) : Prop :=
  match ph with
  | .awaitingSync1 => True
  | .awaitingSync2 => True
  | .accumulatingHeader n => 2 ≤ n ∧ n ≤ 9
  | .accumulatingBody r rem udl => 1 ≤ udl ∧ udl ≤ 250 ∧ 1 ≤ rem ∧ r + rem = bodySize udl

/-- The sync bytes are in place once they have been seen (R28). -/
def Parser.synced (p : Parser) : Prop :=
  match p.phase with
  | .awaitingSync1 => True
  | .awaitingSync2 => p.hdr.read 0 = SYNC1
  | .accumulatingHeader _ => p.hdr.read 0 = SYNC1 ∧ p.hdr.read 1 = SYNC2
  | .accumulatingBody _ _ _ => p.hdr.read 0 = SYNC1 ∧ p.hdr.read 1 = SYNC2

/-- A body is only ever received under a validated header (R29). -/
def Parser.headerGood (cfg : Config) (p : Parser) : Prop :=
  match p.phase with
  | .awaitingSync1 => True
  | .awaitingSync2 => True
  | .accumulatingHeader _ => True
  | .accumulatingBody _ _ udl =>
    (lengthByte p.hdr).toNat = udl + 5 ∧ cfg.crc16 (headerSpan p.hdr) = headerCrc p.hdr

/-- The invariant of the abstract state. -/
structure Parser.Inv (cfg : Config) (p : Parser) : Prop where
  hdrWf      : p.hdr.wf 10 = true
  bodyWf     : p.body.wf 282 = true
  phaseWf    : p.phase.wf
  synced     : p.synced
  headerGood : p.headerGood cfg

/-- An event is pending or due. -/
def State.busy (s : State) : Bool := s.evtValid || s.evtWait != 0

/-- The invariant of the machine: the abstract state's; at most one event pending or due (R26); no byte is taken meanwhile, so the
phase is `AwaitingSync1` (R128, R136); the kind tells a bad length (R142); no payload address is in flight without a pending
event (R138). -/
structure State.Inv (cfg : Config) (s : State) : Prop where
  parser   : s.parser.Inv cfg
  oneEvent : s.evtValid = true → s.evtWait = 0
  hunting  : s.busy = true → s.parser.phase = .awaitingSync1
  kindLen  : s.busy = true → (s.evtKind = 1#2 ↔ (lengthByte s.parser.hdr).toNat < 5)
  pipe     : s.evtValid = false → s.plPipe = []

/-! ## The selection table of R60 as a relation, row by row -/

/-- The row's "phase" and "selected when" columns hold for the byte `b` in the abstract state `p`. -/
def Selected (cfg : Config) (p : Parser) (b : Byte) (i : Instr) : Prop :=
  match i with
  | .sync1Hit => p.phase = .awaitingSync1 ∧ b = 0x05#8
  | .sync1Skip c => c = b ∧ p.phase = .awaitingSync1 ∧ b ≠ 0x05#8
  | .sync2Hit => p.phase = .awaitingSync2 ∧ b = 0x64#8
  | .sync2Miss c => c = b ∧ p.phase = .awaitingSync2 ∧ b ≠ 0x64#8
  | .hdrAcc c => c = b ∧ ∃ n, p.phase = .accumulatingHeader n ∧ n + 1 < 10
  | .hdrBadLength c => c = b ∧ p.phase = .accumulatingHeader 9 ∧ (p.hdr.read 2).toNat < 5
  | .hdrBadCrc c => c = b ∧ p.phase = .accumulatingHeader 9 ∧ 5 ≤ (p.hdr.read 2).toNat ∧
      cfg.crc16 (p.hdr.slice 0 8) ≠ le16 (p.hdr.read 8) b
  | .hdrFrameEmpty c => c = b ∧ p.phase = .accumulatingHeader 9 ∧ (p.hdr.read 2).toNat = 5 ∧
      cfg.crc16 (p.hdr.slice 0 8) = le16 (p.hdr.read 8) b
  | .hdrToBody c => c = b ∧ p.phase = .accumulatingHeader 9 ∧ 5 < (p.hdr.read 2).toNat ∧
      cfg.crc16 (p.hdr.slice 0 8) = le16 (p.hdr.read 8) b
  | .bodyAcc c => c = b ∧ ∃ r rem udl, p.phase = .accumulatingBody r rem udl ∧ 1 < rem
  | .bodyBadCrc c => c = b ∧ ∃ r udl, p.phase = .accumulatingBody r 1 udl ∧
      ∃ k < blockCount udl, blockOk cfg (p.body.write r b) udl k = false
  | .bodyFrame c => c = b ∧ ∃ r udl, p.phase = .accumulatingBody r 1 udl ∧
      ∀ k < blockCount udl, blockOk cfg (p.body.write r b) udl k = true
  | _ => False

/-! ## Frames -/

/-- `m'` is `m` with byte `a` at `v`: every other byte reads as before. -/
def Buffer.Becomes (m : Buffer) (a : Nat) (v : Byte) (m' : Buffer) : Prop :=
  ∀ i, Buffer.read m' i = if i = a then v else Buffer.read m i

/-- `t` differs from `s` in the abstract state only. -/
def State.OnlyParser (s t : State) : Prop := { t with parser := s.parser } = s

/-- `t` differs from `s` in the abstract state, the emitted events and the event register only. -/
def State.OnlyParserAndEvent (s t : State) : Prop :=
  { t with parser := s.parser, events := s.events, evtValid := s.evtValid, evtKind := s.evtKind,
           evtWait := s.evtWait } = s

/-- `t` has emitted `e` where `s` had not, and holds it in the event register at the default latency (R147, R136). -/
def State.Emitted (e : Event) (s t : State) : Prop :=
  t.events = s.events ++ [e] ∧ t.evtValid = true ∧ t.evtKind = e.kind ∧ t.evtWait = 0

/-! ## Refinement (R139) -/

/-- The event the register and the buffers stand for (R137, R142). -/
def State.pendingEvent (cfg : Config) (s : State) : Event :=
  if s.evtKind = 0#2 then
    .frame (headerOf cfg s.parser.hdr) (payload s.parser.body (userDataLength s.parser.hdr))
  else if s.evtKind = 1#2 then .error (.badLength (lengthByte s.parser.hdr))
  else if s.evtKind = 2#2 then .error .badHeaderCrc
  else .error .badBodyCrc

/-- The events emitted and not yet released: one while an event is pending or due, none otherwise. -/
def State.outstanding (cfg : Config) (s : State) : List Event :=
  if s.busy then [s.pendingEvent cfg] else []

/-- The machine agrees with the abstract model on the bytes accepted since reset: the abstract state and the events are those of
`decode(reset_state, accepted bytes)`, and every event but the outstanding one has been read at the ports and released, in
order (R139). -/
structure State.Refines (cfg : Config) (s : State) : Prop where
  abstract : Parser.decode cfg Parser.reset s.stream = .next (s.parser, s.events)
  released : s.events = s.released ++ s.outstanding cfg

/-! ## Stale bytes (R21, R159) -/

/-- `p` and `q` agree on the phase and on every byte written in the current frame; stale bytes may differ. -/
def Parser.AgreeOnFrame (p q : Parser) : Prop :=
  p.phase = q.phase ∧
  match p.phase with
  | .awaitingSync1 => True
  | .awaitingSync2 => p.hdr.read 0 = q.hdr.read 0
  | .accumulatingHeader n => ∀ i < n, p.hdr.read i = q.hdr.read i
  | .accumulatingBody r _ _ =>
    (∀ i < 10, p.hdr.read i = q.hdr.read i) ∧ ∀ i < r, p.body.read i = q.body.read i

/-! ## Which functions are named (R74): the label, and all of an event but the label -/

/-- The event without the Named/Unknown tag of its function: the masked value, the flags, the addresses, the payload, the error and its
length byte stay. -/
def Event.untagged (e : Event) : Event :=
  match e with
  | .frame h pl => .frame { h with control := { h.control with function := .unknown h.control.function.value } } pl
  | .error r => .error r

/-! ## Duties outside the block (R140): assumed by no statement, checked by nothing (92 D27; log 16) -/

/-- The host keeps `in_data` stable from one cycle to the next while it is offered and not accepted (R140, R168). DESIGN CHOICE
(log 20): the spec does not say whether the host may withdraw `in_valid` before acceptance; this duty allows it, and asks
nothing of the byte offered after a withdrawal nor of the last scheduled cycle. -/
def State.HostHolds (s : State) : Prop :=
  match s.pins with
  | p :: q :: _ =>
    p.inValid = true → (s.ready = false ∨ p.rst = true) → q.inValid = true → q.inData = p.inData
  | _ => True

/-- The consumer acknowledges a pending event in some scheduled cycle (R169). -/
def State.ConsumerAcks (s : State) : Prop := s.evtValid = true → ∃ p ∈ s.pins, p.evtAck = true

end Sys2Proof.Machine
end

