-- ==== Sys2Proof/Certificates/Slice0/Obligations.lean ====
section
/-! DEFINITION. The statements for the provers, from the numbered rules of spec/. -/

open Sys2Proof Sys2Proof.Machine

namespace Sys2Proof.Machine

/-- The control-byte class `i` has the masked value `fn`, known or not: every control byte of the class decodes to it, and its
meaning drives the decoder's five outputs and changes nothing else (R73, R76..R85). -/
def PresentsClass (i : Bool → Bool → Bool → Instr) (fn : Byte) (known : Bool) : Prop :=
  (∀ c : Byte, c &&& 0x4F#8 = fn → decode .control c = i (c.getLsbD 7) (c.getLsbD 5) (c.getLsbD 4) ∧
    decodeControl Config.standard c =
      { function := if known then .named fn else .unknown fn, isMaster := c.getLsbD 7, fcb := c.getLsbD 5, fcv := c.getLsbD 4 }) ∧
  ∀ (dir fcb fcv : Bool) (s : State),
    exec (i dir fcb fcv) s = .next { s with ports := { s.ports with
      hdrFunc := fn, hdrFuncKnown := known, hdrDir := dir, hdrFcb := fcb, hdrFcv := fcv } }

end Sys2Proof.Machine

/-- Bytes written out from the encodings decode to the operations they stand for (R60, R61). -/
def Obligations.DecodesWordsWrittenFromTheTable : Prop :=
  decode .sync1 0x05#8 = .sync1Hit ∧ decode .sync1 0x64#8 = .sync1Skip 0x64#8 ∧
  decode .sync2 0x64#8 = .sync2Hit ∧ decode .sync2 0x05#8 = .sync2Miss 0x05#8 ∧
  decode .header 0x05#8 = .hdrAcc 0x05#8 ∧
  decode (.headerEnd 0x04#8 true) 0x94#8 = .hdrBadLength 0x94#8 ∧
  decode (.headerEnd 0x05#8 false) 0x21#8 = .hdrBadCrc 0x21#8 ∧
  decode (.headerEnd 0x05#8 true) 0x21#8 = .hdrFrameEmpty 0x21#8 ∧
  decode (.headerEnd 0x06#8 true) 0x3C#8 = .hdrToBody 0x3C#8 ∧
  decode .body 0x64#8 = .bodyAcc 0x64#8 ∧
  decode (.bodyEnd false) 0xE3#8 = .bodyBadCrc 0xE3#8 ∧ decode (.bodyEnd true) 0xE3#8 = .bodyFrame 0xE3#8 ∧
  decode .control 0b11000000#8 = .resetLinkStates true false false ∧
  decode .control 0b11110011#8 = .confirmedUserData true true true ∧
  decode .control 0b00011011#8 = .linkStatus false false true ∧
  decode .control 0b11111111#8 = .unknown4f true true true

/-- Decoding the byte of a well-formed instruction gives it back, for every reader the table selects it under (R60, R61, R52). -/
def Obligations.DecodeOfEncodeIsTheInstruction : Prop :=
  ∀ i : Instr, WellFormed i = true →
    (∃ rd : Reader, rd.selects i = true) ∧ ∀ rd : Reader, rd.selects i = true → decode rd (encode i) = i

/-- Every byte decodes, for every reader, to a well-formed instruction the reader selects, whose byte it is (R60, R61, R62). -/
def Obligations.EncodeOfDecodeIsTheByte : Prop :=
  ∀ (rd : Reader) (b : Byte),
    encode (decode rd b) = b ∧ WellFormed (decode rd b) = true ∧ rd.selects (decode rd b) = true

/-- Every step performs exactly one of the twelve operations, the one the table of R60 selects (R60). -/
def Obligations.ExactlyOneOperationIsSelected : Prop :=
  ∀ (cfg : Config) (p : Parser) (b : Byte), p.hdr.wf 10 = true → p.phase.wf →
    Selected cfg p b (p.fetch cfg b) ∧ ∀ i, Selected cfg p b i → i = p.fetch cfg b

/-- An edge that accepts a byte runs exactly the instruction the decoder reads from it (R136, R126). -/
def Obligations.StepRunsTheAcceptedByte : Prop :=
  ∀ (s : State) (i : Instr), s.nextPins.rst = false → s.evtValid = false → s.evtWait = 0 → s.nextPins.inValid = true →
    decode (s.parser.reader Config.standard s.nextPins.inData) s.nextPins.inData = i →
    step s = exec i { s with pins := s.pins.tail, freeTick := s.freeTick + 1,
                             stream := s.stream ++ [s.nextPins.inData],
                             ports := { Config.freePorts (s.freeTick + 1) with inReady := true, evtValid := false } }

/-- An edge with an event pending runs exactly the control-byte class decoded from hdr[3] (R73, R136, R137). -/
def Obligations.StepRunsThePendingControlByte : Prop :=
  ∀ (s : State) (i : Instr), s.nextPins.rst = false → s.evtValid = true →
    decode .control (s.parser.hdr.read 3) = i →
    ∃ t, exec i s.tick = .next t ∧
      step s = .next ((t.driveEvent Config.standard s.nextPins.plAddr).consumerEdge Config.standard s.nextPins)

/-- A pause of any length between bytes changes nothing: the partial frame persists (R132). -/
def Obligations.PausesChangeNoState : Prop :=
  ∀ (cfg : Config) (k : Nat) (s : State), (∀ p ∈ s.pins, p.inValid = false ∧ p.rst = false) →
    ∃ t, runWith cfg k s = .next t ∧ t.parser = s.parser ∧ t.stream = s.stream ∧ t.events = s.events

/-- A rising edge with rst = 1 puts every piece of state at its reset value, in any state (R136, R157, R158). Two clauses are the model's: the emptied lists of accepted bytes, emitted and released events (DESIGN CHOICE, log 11), and `evt_valid = 0`
in the reset cycle itself with an event pending (DEDUCED, log 12). -/
def Obligations.ResetEdgeRestoresTheResetState : Prop :=
  ∀ s : State, s.nextPins.rst = true →
    ∃ t, step s = .next t ∧ t.parser = Parser.reset ∧ t.evtValid = false ∧ t.evtWait = 0 ∧ t.plPipe = [] ∧
      t.stream = [] ∧ t.events = [] ∧ t.released = [] ∧ t.ports.inReady = false ∧ t.ports.evtValid = false ∧
      t.pins = s.pins.tail

/-- After reset the phase is AwaitingSync1, every buffer byte is 0x00 and no event is pending (R31). -/
def Obligations.ResetStateHoldsTheSpecsValues : Prop :=
  State.reset.parser.phase = .awaitingSync1 ∧ (∀ i < 10, State.reset.parser.hdr.read i = 0x00#8) ∧
  (∀ i < 282, State.reset.parser.body.read i = 0x00#8) ∧ State.reset.evtValid = false

/-- SYNC1_HIT stores 0x05 in hdr[0] and moves to AwaitingSync2; nothing else changes (R87). -/
def Obligations.Sync1HitResult : Prop :=
  ∀ s : State, s.parser.phase = .awaitingSync1 → s.parser.hdr.wf 10 = true →
    s.parser.fetch Config.standard 0x05#8 = .sync1Hit ∧
    ∃ t, exec .sync1Hit s = .next t ∧ t.parser.phase = .awaitingSync2 ∧
      s.parser.hdr.Becomes 0 0x05#8 t.parser.hdr ∧ t.parser.body = s.parser.body ∧ s.OnlyParser t

/-- SYNC1_SKIP discards any other byte: the machine is unchanged (R88). -/
def Obligations.Sync1SkipResult : Prop :=
  ∀ (s : State) (b : Byte), s.parser.phase = .awaitingSync1 → b ≠ 0x05#8 →
    s.parser.fetch Config.standard b = .sync1Skip b ∧ exec (.sync1Skip b) s = .next s

/-- SYNC2_HIT stores 0x64 in hdr[1] and moves to AccumulatingHeader(2); nothing else changes (R89). -/
def Obligations.Sync2HitResult : Prop :=
  ∀ s : State, s.parser.phase = .awaitingSync2 → s.parser.hdr.wf 10 = true →
    s.parser.fetch Config.standard 0x64#8 = .sync2Hit ∧
    ∃ t, exec .sync2Hit s = .next t ∧ t.parser.phase = .accumulatingHeader 2 ∧
      s.parser.hdr.Becomes 1 0x64#8 t.parser.hdr ∧ t.parser.body = s.parser.body ∧ s.OnlyParser t

/-- SYNC2_MISS discards any other byte, 0x05 included, and reverts to AwaitingSync1 (R90). -/
def Obligations.Sync2MissResult : Prop :=
  ∀ (s : State) (b : Byte), s.parser.phase = .awaitingSync2 → b ≠ 0x64#8 →
    s.parser.fetch Config.standard b = .sync2Miss b ∧
    exec (.sync2Miss b) s = .next { s with parser := { s.parser with phase := .awaitingSync1 } }

/-- HDR_ACC stores the byte, whatever it is, in hdr[n] and moves to AccumulatingHeader(n + 1) (R94). -/
def Obligations.HeaderAccumulationResult : Prop :=
  ∀ (s : State) (n : Nat) (b : Byte), s.parser.phase = .accumulatingHeader n → 2 ≤ n → n ≤ 8 → s.parser.hdr.wf 10 = true →
    s.parser.fetch Config.standard b = .hdrAcc b ∧
    ∃ t, exec (.hdrAcc b) s = .next t ∧ t.parser.phase = .accumulatingHeader (n + 1) ∧
      s.parser.hdr.Becomes n b t.parser.hdr ∧ t.parser.body = s.parser.body ∧ s.OnlyParser t

/-- HDR_BAD_LENGTH reports the raw length byte, whatever the CRC, and returns to the hunt (R101, R143). -/
def Obligations.HeaderBadLengthResult : Prop :=
  ∀ (s : State) (b : Byte), s.parser.phase = .accumulatingHeader 9 → s.parser.hdr.wf 10 = true →
    (s.parser.hdr.read 2).toNat < 5 →
    s.parser.fetch Config.standard b = .hdrBadLength b ∧
    ∃ t, exec (.hdrBadLength b) s = .next t ∧ t.parser.phase = .awaitingSync1 ∧
      s.parser.hdr.Becomes 9 b t.parser.hdr ∧ t.parser.body = s.parser.body ∧
      State.Emitted (.error (.badLength (s.parser.hdr.read 2))) s t ∧ t.evtKind = 1#2 ∧ s.OnlyParserAndEvent t

/-- HDR_BAD_CRC reports BadHeaderCRC and returns to the hunt: no body phase is entered (R102, R144). -/
def Obligations.HeaderBadCrcResult : Prop :=
  ∀ (s : State) (b : Byte), s.parser.phase = .accumulatingHeader 9 → s.parser.hdr.wf 10 = true →
    5 ≤ (s.parser.hdr.read 2).toNat → crcDnp (s.parser.hdr.slice 0 8) ≠ le16 (s.parser.hdr.read 8) b →
    s.parser.fetch Config.standard b = .hdrBadCrc b ∧
    ∃ t, exec (.hdrBadCrc b) s = .next t ∧ t.parser.phase = .awaitingSync1 ∧
      s.parser.hdr.Becomes 9 b t.parser.hdr ∧ t.parser.body = s.parser.body ∧
      State.Emitted (.error .badHeaderCrc) s t ∧ t.evtKind = 2#2 ∧ s.OnlyParserAndEvent t

/-- HDR_FRAME_EMPTY delivers the header with an empty payload and returns to the hunt (R103). -/
def Obligations.HeaderEmptyFrameResult : Prop :=
  ∀ (s : State) (b : Byte), s.parser.phase = .accumulatingHeader 9 → s.parser.hdr.wf 10 = true →
    (s.parser.hdr.read 2).toNat = 5 → crcDnp (s.parser.hdr.slice 0 8) = le16 (s.parser.hdr.read 8) b →
    s.parser.fetch Config.standard b = .hdrFrameEmpty b ∧
    ∃ t, exec (.hdrFrameEmpty b) s = .next t ∧ t.parser.phase = .awaitingSync1 ∧
      s.parser.hdr.Becomes 9 b t.parser.hdr ∧ t.parser.body = s.parser.body ∧
      State.Emitted (.frame { control := decodeControl Config.standard (s.parser.hdr.read 3),
                              destination := le16 (s.parser.hdr.read 4) (s.parser.hdr.read 5),
                              source := le16 (s.parser.hdr.read 6) (s.parser.hdr.read 7) } []) s t ∧
      t.evtKind = 0#2 ∧ s.OnlyParserAndEvent t

/-- HDR_TO_BODY enters AccumulatingBody(0, body_size(L - 5), L - 5) without an event (R104). -/
def Obligations.HeaderToBodyResult : Prop :=
  ∀ (s : State) (b : Byte), s.parser.phase = .accumulatingHeader 9 → s.parser.hdr.wf 10 = true →
    5 < (s.parser.hdr.read 2).toNat → crcDnp (s.parser.hdr.slice 0 8) = le16 (s.parser.hdr.read 8) b →
    s.parser.fetch Config.standard b = .hdrToBody b ∧
    ∃ t, exec (.hdrToBody b) s = .next t ∧
      t.parser.phase = .accumulatingBody 0 (bodySize ((s.parser.hdr.read 2).toNat - 5)) ((s.parser.hdr.read 2).toNat - 5) ∧
      s.parser.hdr.Becomes 9 b t.parser.hdr ∧ t.parser.body = s.parser.body ∧ s.OnlyParser t

/-- BODY_ACC stores the byte in body[r] and counts; no block is checked before the last byte (R107). -/
def Obligations.BodyAccumulationResult : Prop :=
  ∀ (s : State) (r rem udl : Nat) (b : Byte), s.parser.phase = .accumulatingBody r rem udl → 2 ≤ rem → r < 282 →
    s.parser.body.wf 282 = true →
    s.parser.fetch Config.standard b = .bodyAcc b ∧
    ∃ t, exec (.bodyAcc b) s = .next t ∧ t.parser.phase = .accumulatingBody (r + 1) (rem - 1) udl ∧
      s.parser.body.Becomes r b t.parser.body ∧ t.parser.hdr = s.parser.hdr ∧ s.OnlyParser t

/-- BODY_BAD_CRC reports one BadBodyCRC however many blocks fail, and returns to the hunt (R114, R111). -/
def Obligations.BodyBadCrcResult : Prop :=
  ∀ (s : State) (r udl : Nat) (b : Byte), s.parser.phase = .accumulatingBody r 1 udl → r < 282 → bodySize udl ≤ 282 →
    s.parser.body.wf 282 = true →
    (∃ k < blockCount udl, crcDnp (blockData (s.parser.body.write r b) udl k) ≠ blockCrc (s.parser.body.write r b) udl k) →
    s.parser.fetch Config.standard b = .bodyBadCrc b ∧
    ∃ t, exec (.bodyBadCrc b) s = .next t ∧ t.parser.phase = .awaitingSync1 ∧
      s.parser.body.Becomes r b t.parser.body ∧ t.parser.hdr = s.parser.hdr ∧
      State.Emitted (.error .badBodyCrc) s t ∧ t.evtKind = 3#2 ∧ s.OnlyParserAndEvent t

/-- BODY_FRAME delivers the header and the payload with the block CRCs stripped (R115). -/
def Obligations.BodyFrameResult : Prop :=
  ∀ (s : State) (r udl : Nat) (b : Byte), s.parser.phase = .accumulatingBody r 1 udl → r < 282 → bodySize udl ≤ 282 →
    s.parser.body.wf 282 = true →
    (∀ k < blockCount udl, crcDnp (blockData (s.parser.body.write r b) udl k) = blockCrc (s.parser.body.write r b) udl k) →
    s.parser.fetch Config.standard b = .bodyFrame b ∧
    ∃ t, exec (.bodyFrame b) s = .next t ∧ t.parser.phase = .awaitingSync1 ∧
      s.parser.body.Becomes r b t.parser.body ∧ t.parser.hdr = s.parser.hdr ∧
      State.Emitted (.frame { control := decodeControl Config.standard (s.parser.hdr.read 3),
                              destination := le16 (s.parser.hdr.read 4) (s.parser.hdr.read 5),
                              source := le16 (s.parser.hdr.read 6) (s.parser.hdr.read 7) }
                     ((List.range udl).map fun i => t.parser.body.read (18 * (i / 16) + i % 16))) s t ∧
      t.evtKind = 0#2 ∧ s.OnlyParserAndEvent t

/-- The nine named classes present Named(fn) and the three flags, and change nothing else (R76, R77, R78, R79, R80, R81, R82, R83, R84). -/
def Obligations.NamedClassesPresentTheirFunction : Prop :=
  PresentsClass .resetLinkStates 0x40#8 true ∧
  PresentsClass .testLinkStates 0x42#8 true ∧
  PresentsClass .confirmedUserData 0x43#8 true ∧
  PresentsClass .unconfirmedUserData 0x44#8 true ∧
  PresentsClass .requestLinkStatus 0x49#8 true ∧
  PresentsClass .ack 0x00#8 true ∧
  PresentsClass .nack 0x01#8 true ∧
  PresentsClass .linkStatus 0x0B#8 true ∧
  PresentsClass .notSupported 0x0F#8 true

/-- The twenty-three unknown classes present Unknown(fn) with the masked value, and change nothing else (R85). -/
def Obligations.UnknownClassesPresentTheMaskedValue : Prop :=
  PresentsClass .unknown41 0x41#8 false ∧
  PresentsClass .unknown45 0x45#8 false ∧
  PresentsClass .unknown46 0x46#8 false ∧
  PresentsClass .unknown47 0x47#8 false ∧
  PresentsClass .unknown48 0x48#8 false ∧
  PresentsClass .unknown4a 0x4A#8 false ∧
  PresentsClass .unknown4b 0x4B#8 false ∧
  PresentsClass .unknown4c 0x4C#8 false ∧
  PresentsClass .unknown4d 0x4D#8 false ∧
  PresentsClass .unknown4e 0x4E#8 false ∧
  PresentsClass .unknown4f 0x4F#8 false ∧
  PresentsClass .unknown02 0x02#8 false ∧
  PresentsClass .unknown03 0x03#8 false ∧
  PresentsClass .unknown04 0x04#8 false ∧
  PresentsClass .unknown05 0x05#8 false ∧
  PresentsClass .unknown06 0x06#8 false ∧
  PresentsClass .unknown07 0x07#8 false ∧
  PresentsClass .unknown08 0x08#8 false ∧
  PresentsClass .unknown09 0x09#8 false ∧
  PresentsClass .unknown0a 0x0A#8 false ∧
  PresentsClass .unknown0c 0x0C#8 false ∧
  PresentsClass .unknown0d 0x0D#8 false ∧
  PresentsClass .unknown0e 0x0E#8 false

/-- For any NAMED_FUNCTIONS the class read from a control byte presents exactly decode_control of it (R67). -/
def Obligations.ControlDecoderIsTotalAndPure : Prop :=
  ∀ (cfg : Config) (c : Byte) (s : State),
    decodeControl cfg c = { function := if c &&& 0x4F#8 ∈ cfg.named then .named (c &&& 0x4F#8) else .unknown (c &&& 0x4F#8),
                            isMaster := c.getLsbD 7, fcb := c.getLsbD 5, fcv := c.getLsbD 4 } ∧
    execWith cfg (decode .control c) s = .next { s with ports := showControl (decodeControl cfg c) s.ports }

/-- Two control bytes with the same decoded fields are the same byte (R52, R57, R69). -/
def Obligations.ControlFieldsLoseNoBit : Prop :=
  ∀ (cfg : Config) (c d : Byte), decodeControl cfg c = decodeControl cfg d → c = d

/-- Which functions are named changes no parsing decision (R74, R75). -/
def Obligations.FunctionValueLabelsOnly : Prop :=
  ∀ (cfg : Config) (names : List Byte) (p : Parser) (b : Byte),
    (∀ q evs, p.step cfg b = .next (q, evs) → ∃ evs', p.step { cfg with named := names } b = .next (q, evs') ∧
      evs'.map Event.untagged = evs.map Event.untagged) ∧
    ((∃ r, p.step cfg b = .next r) ↔ ∃ r, p.step { cfg with named := names } b = .next r)

/-- Decoding a byte and executing it is the normative step of R126, for any parameters (R126). -/
def Obligations.ExecOfTheFetchedByteIsTheNormativeStep : Prop :=
  ∀ (cfg : Config) (s : State) (b : Byte),
    execWith cfg (s.parser.fetch cfg b) s = s.commit cfg (s.parser.step cfg b)

/-- Every step emits zero or one event, one exactly for the five completing operations (R127). -/
def Obligations.OnlyCompletingOperationsEmit : Prop :=
  ∀ (cfg : Config) (p q : Parser) (b : Byte) (evs : List Event), p.step cfg b = .next (q, evs) →
    evs.length = match p.fetch cfg b with
      | .hdrBadLength _ => 1
      | .hdrBadCrc _ => 1
      | .hdrFrameEmpty _ => 1
      | .bodyBadCrc _ => 1
      | .bodyFrame _ => 1
      | _ => 0

/-- After every event the phase is AwaitingSync1 (R128). -/
def Obligations.EveryEventReturnsToTheHunt : Prop :=
  ∀ (cfg : Config) (p q : Parser) (b : Byte) (evs : List Event), p.step cfg b = .next (q, evs) → evs ≠ [] →
    q.phase = .awaitingSync1

/-- A step writes at most the one buffer byte its phase names, and nothing else of either buffer (R34, R40, R86, R88, R90). -/
def Obligations.StepWritesTheOneByteThePhaseNames : Prop :=
  ∀ (cfg : Config) (p q : Parser) (b : Byte) (evs : List Event), p.Inv cfg → p.step cfg b = .next (q, evs) →
    match p.phase with
    | .awaitingSync1 => q.body = p.body ∧ if b = 0x05#8 then p.hdr.Becomes 0 b q.hdr else q.hdr = p.hdr
    | .awaitingSync2 => q.body = p.body ∧ if b = 0x64#8 then p.hdr.Becomes 1 b q.hdr else q.hdr = p.hdr
    | .accumulatingHeader n => q.body = p.body ∧ p.hdr.Becomes n b q.hdr
    | .accumulatingBody r _ _ => q.hdr = p.hdr ∧ p.body.Becomes r b q.body

/-- No byte can make the parser fault, stop or leave the reachable set (R30, R28, R29). -/
def Obligations.AbstractStepIsTotalOnReachableStates : Prop :=
  ∀ (cfg : Config) (p : Parser) (b : Byte), p.Inv cfg →
    ∃ q evs, p.step cfg b = .next (q, evs) ∧ evs.length ≤ 1 ∧ q.Inv cfg

/-- The reset state meets the invariant and the refinement relation, for any parameters (R31, R28, R29, R139). -/
def Obligations.ResetMeetsTheInvariants : Prop :=
  ∀ cfg : Config, State.reset.Inv cfg ∧ State.reset.Refines cfg

/-- Every clock edge from a state meeting the invariant has a next state, which meets it again (R30, R26, R128, R136). -/
def Obligations.MachineStepKeepsTheInvariant : Prop :=
  (∀ (cfg : Config) (s : State), s.Inv cfg → ∃ t, stepWith cfg s = .next t ∧ t.Inv cfg) ∧
  ∀ s : State, s.Inv Config.standard → ∃ t, step s = .next t ∧ t.Inv Config.standard

/-- The port-level machine refines the abstract model, for every CRC16, named set and latency (R139). -/
def Obligations.MachineStepKeepsTheRefinement : Prop :=
  (∀ (cfg : Config) (s t : State), s.Inv cfg → s.Refines cfg → stepWith cfg s = .next t → t.Refines cfg) ∧
  ∀ (cfg : Config) (pins : List Pins) (k : Nat),
    ∃ t, runWith cfg k { State.reset with pins := pins } = .next t ∧ t.Inv cfg ∧ t.Refines cfg

/-- Decoding a stream in two chunks gives the events and the state of decoding it whole (R130). -/
def Obligations.ChunkingChangesNothing : Prop :=
  ∀ (cfg : Config) (p : Parser) (xs ys : List Byte),
    Parser.decode cfg p [] = .next (p, []) ∧
    Parser.decode cfg p (xs ++ ys) =
      andThen (Parser.decode cfg p xs) fun r1 =>
        andThen (Parser.decode cfg r1.1 ys) fun r2 => .next (r2.1, r1.2 ++ r2.2)

/-- Bytes left from an earlier frame or from reset influence no event of any later stream (R21, R159). -/
def Obligations.StaleBytesInfluenceNoEvent : Prop :=
  ∀ (cfg : Config) (p q : Parser) (bs : List Byte), p.Inv cfg → q.Inv cfg → p.AgreeOnFrame q →
    ∃ p' q' evs, Parser.decode cfg p bs = .next (p', evs) ∧ Parser.decode cfg q bs = .next (q', evs) ∧
      p'.AgreeOnFrame q'

/-- body_size(udl) = udl + 2 * ceil(udl / 16), in 3..282 for 1..250, and 0 for 0 (R105). -/
def Obligations.BodySizeFormula : Prop :=
  (∀ udl, bodySize udl = 18 * (udl / 16) + (if udl % 16 = 0 then 0 else udl % 16 + 2) ∧
    bodySize udl = udl + 2 * ((udl + 15) / 16)) ∧
  (∀ udl, 1 ≤ udl → udl ≤ 250 → 3 ≤ bodySize udl ∧ bodySize udl ≤ 282) ∧ bodySize 0 = 0

/-- The blocks tile the body region: each offset is one data or CRC byte of one block (R106, R35). -/
def Obligations.BlocksTileTheBody : Prop :=
  (∀ udl k, k < blockCount udl →
    blockStart k = 18 * k ∧ blockLen udl k = min 16 (udl - 16 * k) ∧ 1 ≤ blockLen udl k ∧ blockLen udl k ≤ 16 ∧
    (k + 1 < blockCount udl → blockLen udl k = 16 ∧ blockStart k + blockLen udl k + 2 = blockStart (k + 1)) ∧
    (k + 1 = blockCount udl → blockStart k + blockLen udl k + 1 = bodySize udl - 1)) ∧
  (∀ udl o, o < bodySize udl → o / 18 < blockCount udl ∧ o % 18 < blockLen udl (o / 18) + 2)

/-- The payload map is strictly increasing and picks only data bytes of the body region (R36). -/
def Obligations.PayloadIndexIsIncreasing : Prop :=
  (∀ i, payloadIndex i = 18 * (i / 16) + i % 16) ∧ (∀ i j, i < j → payloadIndex i < payloadIndex j) ∧
  ∀ udl i, i < udl → payloadIndex i < bodySize udl ∧ payloadIndex i % 18 < blockLen udl (payloadIndex i / 18)

/-- The payload is the concatenation of the blocks' data, the CRC bytes stripped (R113). -/
def Obligations.PayloadIsTheBlocksData : Prop :=
  ∀ (body : Buffer) (udl : Nat),
    payload body udl = (List.range udl).map (fun i => body.read (18 * (i / 16) + i % 16)) ∧
    payload body udl = (List.range (blockCount udl)).flatMap (blockData body udl) ∧ (payload body udl).length = udl

/-- The hardware registers of R27 hold every stored phase without loss (R27, R59). -/
def Obligations.RegistersHoldEveryStoredPhase : Prop :=
  ∀ (ph : Phase) (old : PhaseRegs), ph.wf → (ph.toRegs old).toPhase = ph ∧
    match ph with
    | .awaitingSync1 => True
    | .awaitingSync2 => True
    | .accumulatingHeader n => (ph.toRegs old).n.toNat = n
    | .accumulatingBody r rem udl => (ph.toRegs old).r.toNat = r ∧ (ph.toRegs old).rem.toNat = rem ∧
        (ph.toRegs old).udl.toNat = udl

/-- The default CRC16 has the values the spec lists, 0x21E9 of the source among them (R121, R120). -/
def Obligations.CrcVectorsOfTheSpec : Prop :=
  crcDnp [] = 0xFFFF#16 ∧ crcDnp [0x00#8] = 0xFFFF#16 ∧ crcDnp [0x00#8, 0x00#8] = 0xFFFF#16 ∧
  crcDnp [0x01#8] = 0xC9A1#16 ∧ crcDnp [0x80#8] = 0x5943#16 ∧ crcDnp [0xFF#8] = 0xEDCA#16 ∧ crcDnp [0xAA#8] = 0xE3D9#16 ∧
  crcDnp [0x31#8, 0x32#8, 0x33#8, 0x34#8, 0x35#8, 0x36#8, 0x37#8, 0x38#8, 0x39#8] = 0xEA82#16 ∧
  crcDnp [0x05#8, 0x64#8, 0x05#8, 0xC0#8, 0x01#8, 0x00#8, 0x00#8, 0x04#8] = 0x21E9#16 ∧
  crcDnp [0x05#8, 0x64#8, 0x04#8, 0xC0#8, 0x01#8, 0x00#8, 0x00#8, 0x04#8] = 0x940E#16 ∧
  crcDnp [0x05#8, 0x64#8, 0x19#8, 0xC4#8, 0x01#8, 0x00#8, 0x00#8, 0x04#8] = 0x0282#16 ∧
  crcDnp [0x05#8, 0x64#8, 0x06#8, 0x44#8, 0x02#8, 0x00#8, 0x03#8, 0x00#8] = 0x3C47#16 ∧
  crcDnp [0x05#8, 0x64#8, 0xFF#8, 0x44#8, 0xFF#8, 0xFF#8, 0xFF#8, 0xFF#8] = 0xD8B3#16 ∧
  crcDnp ((List.range 16).map (BitVec.ofNat 8)) = 0x10EC#16 ∧
  crcDnp [0x10#8, 0x11#8, 0x12#8, 0x13#8] = 0xBBDD#16

/-- The table form of the CRC computes the same function as the shift form (R119). -/
def Obligations.CrcTableFormIsEquivalent : Prop :=
  (∀ bs : List Byte, crcDnpByTable bs = crcDnp bs) ∧ crcTable 0x00#8 = 0x0000#16 ∧ crcTable 0x01#8 = 0x365E#16 ∧
  crcTable 0x02#8 = 0x6CBC#16 ∧ crcTable 0x80#8 = 0xA6BC#16 ∧ crcTable 0xFF#8 = 0x1235#16

/-- Leading zero bytes do not change the default CRC; all-zero data carries FF FF (R122). -/
def Obligations.CrcOfLeadingZeros : Prop :=
  (∀ bs : List Byte, crcDnp (0x00#8 :: bs) = crcDnp bs) ∧ crcDnp [] = 0xFFFF#16 ∧
  (∀ n : Nat, crcDnp (List.replicate n 0x00#8) = 0xFFFF#16) ∧ (∀ hdr : Buffer, (headerSpan hdr).length = 8) ∧
  ∀ (body : Buffer) (udl k : Nat), k < blockCount udl → 1 ≤ (blockData body udl k).length

/-- Running the CRC over data followed by its CRC leaves 0x66C5, and accepts exactly the same blocks (R123). -/
def Obligations.CrcResidueIsConstant : Prop :=
  ∀ (d : List Byte) (lo hi : Byte),
    (le16 lo hi = crcDnp d → crcRegister (d ++ [lo, hi]) = 0x66C5#16 ∧ crcDnp (d ++ [lo, hi]) = 0x993A#16) ∧
    (crcRegister (d ++ [lo, hi]) = 0x66C5#16 → le16 lo hi = crcDnp d)

/-- Any single-bit change of the covered bytes changes the default CRC (R124, R118). -/
def Obligations.SingleBitChangesAreDetected : Prop :=
  ∀ (bs : List Byte) (i j : Nat), i < bs.length → j < 8 → crcDnp (flipBit bs i j) ≠ crcDnp bs

/-- A frame written in the notation of R66 is delivered once, with its fields and its payload (R66, R96, R103, R109, R113, R115). -/
def Obligations.WellFormedFrameIsDelivered : Prop :=
  ∀ (cfg : Config) (p : Parser) (ctl : Byte) (dst src : Half) (d : List Byte),
    p.Inv cfg → p.phase = .awaitingSync1 → d.length ≤ 250 →
    ∃ q, Parser.decode cfg p (frame cfg ctl dst src d) =
        .next (q, [.frame { control := decodeControl cfg ctl, destination := dst, source := src } d]) ∧
      q.phase = .awaitingSync1 ∧ q.Inv cfg

/-- A frame with one corrupted block CRC draws exactly one BadBodyCRC, at its last byte, and no frame (R66, R109, R111, R112, R114). -/
def Obligations.CorruptedBlockIsReportedOnce : Prop :=
  ∀ (cfg : Config) (p : Parser) (ctl : Byte) (dst src : Half) (d : List Byte) (k : Nat),
    p.Inv cfg → p.phase = .awaitingSync1 → d.length ≤ 250 → k < blockCount d.length →
    ∃ q, Parser.decode cfg p (badBcrc (frame cfg ctl dst src d) k) = .next (q, [.error .badBodyCrc]) ∧
      q.phase = .awaitingSync1 ∧
      ∃ q', Parser.decode cfg p (badBcrc (frame cfg ctl dst src d) k).dropLast = .next (q', [])

/-- A malformed header draws exactly one error: the length first, then the CRC (R66, R97, R98, R99, R101, R102). -/
def Obligations.MalformedHeaderIsReportedOnce : Prop :=
  ∀ (cfg : Config) (p : Parser) (len ctl : Byte) (dst src : Half), p.Inv cfg → p.phase = .awaitingSync1 →
    (len.toNat < 5 →
      (∃ q, Parser.decode cfg p (frameHeader cfg len ctl dst src) = .next (q, [.error (.badLength len)]) ∧
        q.phase = .awaitingSync1) ∧
      ∃ q, Parser.decode cfg p (badHcrc (frameHeader cfg len ctl dst src)) = .next (q, [.error (.badLength len)]) ∧
        q.phase = .awaitingSync1) ∧
    (5 ≤ len.toNat →
      ∃ q, Parser.decode cfg p (badHcrc (frameHeader cfg len ctl dst src)) = .next (q, [.error .badHeaderCrc]) ∧
        q.phase = .awaitingSync1)

/-- After a stray 0x05 the bytes 05 64 do not start a frame (R166). -/
def Obligations.DoubledSyncByteLosesTheFrame : Prop :=
  ∀ (cfg : Config) (p : Parser), p.phase = .awaitingSync1 →
    ∃ q, Parser.decode cfg p [0x05#8, 0x05#8, 0x64#8] = .next (q, []) ∧ q.phase = .awaitingSync1

/-- While an event is pending and not acknowledged no byte is accepted and nothing changes (R136, R137, R26). -/
def Obligations.PendingEventIsHeldUntilAcknowledged : Prop :=
  ∀ s : State, s.nextPins.rst = false → s.evtValid = true → s.nextPins.evtAck = false →
    ∃ t, step s = .next t ∧ t.ports.inReady = false ∧ t.ports.evtValid = true ∧ t.parser = s.parser ∧
      t.evtValid = true ∧ t.evtKind = s.evtKind ∧ t.evtWait = s.evtWait ∧ t.stream = s.stream ∧ t.events = s.events ∧
      t.released = s.released ∧ t.pins = s.pins.tail

/-- While an event is pending every specified output shows the event register and the buffers (R135, R136, R137, R142, R73). -/
def Obligations.EventOutputsAreWiresFromTheBuffers : Prop :=
  ∀ s : State, s.nextPins.rst = false → s.evtValid = true →
    ∃ t, step s = .next t ∧ t.ports.inReady = false ∧ t.ports.evtValid = true ∧ t.ports.evtKind = s.evtKind ∧ t.ports.evtLen = s.parser.hdr.read 2 ∧
      t.ports.hdrCtrl = s.parser.hdr.read 3 ∧ t.ports.hdrFunc = s.parser.hdr.read 3 &&& 0x4F#8 ∧
      (t.ports.hdrFuncKnown = true ↔ s.parser.hdr.read 3 &&& 0x4F#8 ∈ defaultNamed) ∧
      t.ports.hdrDir = (s.parser.hdr.read 3).getLsbD 7 ∧ t.ports.hdrFcb = (s.parser.hdr.read 3).getLsbD 5 ∧
      t.ports.hdrFcv = (s.parser.hdr.read 3).getLsbD 4 ∧
      t.ports.hdrDest = le16 (s.parser.hdr.read 4) (s.parser.hdr.read 5) ∧
      t.ports.hdrSrc = le16 (s.parser.hdr.read 6) (s.parser.hdr.read 7) ∧
      t.ports.plLen = if s.evtKind = 0#2 then s.parser.hdr.read 2 - 5#8 else 0#8

/-- The payload port answers an address below pl_len with that payload byte, and the read changes nothing (R138, R42). -/
def Obligations.PayloadPortReadsTheFrame : Prop :=
  ∀ s : State, s.nextPins.rst = false → s.evtValid = true → s.evtKind = 0#2 →
    s.nextPins.plAddr.toNat < (s.parser.hdr.read 2 - 5#8).toNat →
    ∃ t, step s = .next t ∧
      t.ports.plData = s.parser.body.read (18 * (s.nextPins.plAddr.toNat / 16) + s.nextPins.plAddr.toNat % 16) ∧
      t.parser = s.parser ∧ t.events = s.events ∧
      (s.nextPins.evtAck = false → t.evtValid = true ∧ t.evtKind = s.evtKind ∧ t.released = s.released) ∧
      (s.nextPins.evtAck = true → t.evtValid = false)

/-- An acknowledge releases the event, and a byte offered in the next cycle is accepted in it (R136, R148). -/
def Obligations.AcknowledgeReleasesAndReopensTheInput : Prop :=
  ∀ s : State, s.Inv Config.standard → s.Refines Config.standard → s.evtValid = true →
    s.nextPins.rst = false → s.nextPins.evtAck = true →
    ∃ t e, step s = .next t ∧ t.evtValid = false ∧ t.ready = true ∧ t.parser = s.parser ∧ t.events = s.events ∧
      t.stream = s.stream ∧ t.released = s.released ++ [e] ∧ s.events.getLast? = some e ∧ t.released = t.events ∧
      t.pins = s.pins.tail ∧
      ∀ (q : Pins) (rest : List Pins), s.pins.tail = q :: rest → q.rst = false → q.inValid = true →
        ∃ u, step t = .next u ∧ u.stream = s.stream ++ [q.inData] ∧ u.ports.inReady = true

/-- evt_ack while evt_valid = 0 has no effect; with no event pending or due a cycle that offers no byte shows in_ready = 1 and changes nothing (R136). -/
def Obligations.AcknowledgeWithoutEventHasNoEffect : Prop :=
  (∀ (s : State) (p : Pins) (rest : List Pins) (a b : Bool), s.evtValid = false →
    step { s with pins := { p with evtAck := a } :: rest } = step { s with pins := { p with evtAck := b } :: rest }) ∧
  ∀ s : State, s.nextPins.rst = false → s.evtValid = false → s.evtWait = 0 → s.nextPins.inValid = false →
    ∃ t, step s = .next t ∧ t.ports.inReady = true ∧ t.ports.evtValid = false ∧ t.parser = s.parser ∧
      t.evtValid = false ∧ t.evtKind = s.evtKind ∧ t.evtWait = 0 ∧ t.stream = s.stream ∧ t.events = s.events ∧
      t.released = s.released ∧ t.pins = s.pins.tail

/-- evt_valid rises exactly EVT_LATENCY cycles after the completing byte, for every latency of at least 1 (R7, R136, R170). That a latency of 0 counts as 1, and that the kind is in the
event register while the event is due, is the model's reading (DEDUCED, log 9). -/
def Obligations.EvtValidRisesAfterTheLatency : Prop :=
  (∀ (cfg : Config) (s : State) (q : Parser) (e : Event), 1 ≤ cfg.evtLatency → (∀ p ∈ s.pins, p.rst = false) →
    s.evtValid = false → s.evtWait = 0 → s.nextPins.inValid = true →
    s.parser.step cfg s.nextPins.inData = .next (q, [e]) →
    ∀ j, 1 ≤ j → j ≤ cfg.evtLatency → ∃ t, runWith cfg j s = .next t ∧ (t.evtValid = true ↔ j = cfg.evtLatency) ∧
      (t.evtValid = true → t.evtKind = e.kind) ∧ t.parser = q ∧ t.stream = s.stream ++ [s.nextPins.inData] ∧
      t.events = s.events ++ [e] ∧ t.released = s.released ∧
      (1 < j → t.ports.inReady = false ∧ t.ports.evtValid = false)) ∧
  ∀ (cfg : Config) (s : State) (k : Nat), s.evtValid = false → s.evtWait = k + 1 → (∀ p ∈ s.pins, p.rst = false) →
    ∀ j, j ≤ k + 1 → ∃ t, runWith cfg j s = .next t ∧ (t.evtValid = true ↔ j = k + 1) ∧ t.evtWait = k + 1 - j ∧
      (t.evtValid = true → t.evtKind = s.evtKind) ∧ t.parser = s.parser ∧ t.stream = s.stream ∧ t.events = s.events ∧
      t.released = s.released ∧ (1 ≤ j → t.ports.inReady = false ∧ t.ports.evtValid = false)

/-- evt_kind encodes the four events as 0, 1, 2, 3 (R142). -/
def Obligations.EventKindCodes : Prop :=
  (∀ h pl, (Event.frame h pl).kind = 0#2) ∧ (∀ l, (Event.error (.badLength l)).kind = 1#2) ∧
  (Event.error .badHeaderCrc).kind = 2#2 ∧ (Event.error .badBodyCrc).kind = 3#2 ∧
  (∀ (cfg : Config) (s : State) (e : Event), cfg.evtLatency = 1 →
    (s.raise cfg e).evtValid = true ∧ (s.raise cfg e).evtKind = e.kind) ∧
  ∀ (cfg : Config) (a : Byte) (s : State), (s.driveEvent cfg a).ports.evtKind = s.evtKind ∧
    (s.driveEvent cfg a).ports.evtLen = s.parser.hdr.read 2

/-- Canonical buffers that read alike are equal, and every write keeps the canonical form (R15, R40). -/
def Obligations.EqualBuffersAreEqualData : Prop :=
  (∀ (size a : Nat) (v : Byte) (m : Buffer), m.wf size = true → a < size →
    (m.write a v).wf size = true ∧ m.Becomes a v (m.write a v)) ∧
  ∀ (size : Nat) (m m' : Buffer), m.wf size = true → m'.wf size = true → (∀ i, m.read i = m'.read i) → m = m'

/-- The model's own stops: an operation outside its operand is refused or faults by name, and no step from the invariant stops (R37, R60). What a direct call of `exec` meets is the model's choice (log 5, DEDUCED; log 8, DESIGN CHOICE; log 10 for the counters). -/
def Obligations.MeaningsStopOutsideTheirOperandsAndStepsNever : Prop :=
  (∀ (cfg : Config) (s : State), s.Inv cfg →
    (∀ f, stepWith cfg s ≠ .fault f) ∧ ∀ r, stepWith cfg s ≠ .refused r) ∧
  (∀ s : State, s.Inv Config.standard → (∀ f, step s ≠ .fault f) ∧ ∀ r, step s ≠ .refused r) ∧
  (∀ s : State, s.parser.phase ≠ .awaitingSync1 → exec .sync1Hit s = .refused .notSelected) ∧
  (∀ (s : State) (b : Byte), s.parser.phase ≠ .awaitingSync1 → exec (.sync1Skip b) s = .refused .notSelected) ∧
  (∀ s : State, s.parser.phase ≠ .awaitingSync2 → exec .sync2Hit s = .refused .notSelected) ∧
  (∀ (s : State) (b : Byte), s.parser.phase ≠ .awaitingSync2 → exec (.sync2Miss b) s = .refused .notSelected) ∧
  (∀ (s : State) (b : Byte), (∀ n, s.parser.phase ≠ .accumulatingHeader n) →
    exec (.hdrAcc b) s = .refused .notSelected ∧ exec (.hdrBadLength b) s = .refused .notSelected ∧
    exec (.hdrBadCrc b) s = .refused .notSelected ∧ exec (.hdrFrameEmpty b) s = .refused .notSelected ∧
    exec (.hdrToBody b) s = .refused .notSelected) ∧
  (∀ (s : State) (b : Byte), (∀ r rem udl, s.parser.phase ≠ .accumulatingBody r rem udl) →
    exec (.bodyAcc b) s = .refused .notSelected ∧ exec (.bodyBadCrc b) s = .refused .notSelected ∧
    exec (.bodyFrame b) s = .refused .notSelected) ∧
  (∀ (s : State) (b : Byte) (n : Nat), s.parser.phase = .accumulatingHeader n →
    (9 ≤ n → exec (.hdrAcc b) s = .refused .notSelected) ∧
    (n < 9 → exec (.hdrBadLength b) s = .refused .notSelected ∧ exec (.hdrBadCrc b) s = .refused .notSelected ∧
      exec (.hdrFrameEmpty b) s = .refused .notSelected ∧ exec (.hdrToBody b) s = .refused .notSelected)) ∧
  (∀ (s : State) (b : Byte) (r rem udl : Nat), s.parser.phase = .accumulatingBody r rem udl →
    (rem ≤ 1 → exec (.bodyAcc b) s = .refused .notSelected) ∧
    (1 < rem → exec (.bodyBadCrc b) s = .refused .notSelected ∧ exec (.bodyFrame b) s = .refused .notSelected) ∧
    (1 < rem → 282 ≤ r → exec (.bodyAcc b) s = .fault .outsideBuffer) ∧
    (rem ≤ 1 → 282 ≤ r ∨ 282 < bodySize udl →
      exec (.bodyBadCrc b) s = .fault .outsideBuffer ∧ exec (.bodyFrame b) s = .fault .outsideBuffer))

/-- At every read latency the payload port answers an address that many cycles later, within the same event (R138, R7, R42). That the earlier answers of an event are left open is the model's choice (DESIGN CHOICE, log 13). -/
def Obligations.PayloadPortAnswersAfterTheReadLatency : Prop :=
  (∀ (cfg : Config) (s : State) (p : Pins) (ps rest : List Pins), s.pins = (p :: ps) ++ rest →
    ps.length = cfg.plReadLatency → (∀ x ∈ p :: ps, x.rst = false) → (∀ x ∈ (p :: ps).dropLast, x.evtAck = false) →
    s.evtValid = true → s.evtKind = 0#2 → p.plAddr.toNat < (s.parser.hdr.read 2 - 5#8).toNat →
    ∃ t, runWith cfg (ps.length + 1) s = .next t ∧ t.ports.evtValid = true ∧
      t.ports.plData = s.parser.body.read (18 * (p.plAddr.toNat / 16) + p.plAddr.toNat % 16) ∧
      t.parser = s.parser ∧ t.events = s.events) ∧
  ∀ (cfg : Config) (s : State) (p : Pins) (ps rest : List Pins), s.pins = (p :: ps) ++ rest →
    (∀ x ∈ p :: ps, x.rst = false ∧ x.evtAck = false) → s.evtValid = true →
    ∃ t, runWith cfg (ps.length + 1) s = .next t ∧ t.evtValid = true ∧
      t.plPipe = (((p :: ps).map Pins.plAddr).reverse ++ s.plPipe).take cfg.plReadLatency
end

