-- ==== Sys2Proof/Laws/Memory.lean ====
section
/-! SUPPORT. Laws of the buffers: a read after a write, the other bytes, and the canonical form. -/

namespace Sys2Proof.Machine

@[simp] theorem Buffer.read_nil (a : Nat) : Buffer.read [] a = 0#8 := rfl

@[simp] theorem Buffer.wf_nil (size : Nat) : Buffer.wf size [] = true := rfl

theorem Buffer.wfFrom_cons {lo size k : Nat} {v : Byte} {rest : Buffer} :
    Buffer.wfFrom lo size ((k, v) :: rest) = true ↔
      lo ≤ k ∧ k < size ∧ v ≠ 0#8 ∧ Buffer.wfFrom (k + 1) size rest = true := by
  simp [Buffer.wfFrom, and_assoc]

theorem Buffer.read_cons (k : Nat) (v : Byte) (rest : Buffer) (a : Nat) :
    Buffer.read ((k, v) :: rest) a = if a < k then 0#8 else if a = k then v else Buffer.read rest a := rfl

theorem Buffer.wfFrom_mono {size : Nat} {m : Buffer} {lo lo' : Nat} (hle : lo' ≤ lo)
    (h : Buffer.wfFrom lo size m = true) : Buffer.wfFrom lo' size m = true := by
  cases m with
  | nil => rfl
  | cons c rest =>
    obtain ⟨k, v⟩ := c
    rw [Buffer.wfFrom_cons] at h ⊢
    exact ⟨by omega, h.2⟩

theorem Buffer.read_below {m : Buffer} {lo size a : Nat} (h : Buffer.wfFrom lo size m = true) (ha : a < lo) :
    Buffer.read m a = 0#8 := by
  cases m with
  | nil => rfl
  | cons c rest =>
    obtain ⟨k, v⟩ := c
    rw [Buffer.wfFrom_cons] at h
    rw [Buffer.read_cons, if_pos (by omega)]

theorem Buffer.read_write_from {size a : Nat} {v : Byte} (b : Nat) {m : Buffer} {lo : Nat}
    (h : Buffer.wfFrom lo size m = true) :
    Buffer.read (Buffer.write m a v) b = if b = a then v else Buffer.read m b := by
  induction m generalizing lo with
  | nil =>
    unfold Buffer.write
    split_ifs with hv hb hb
    · rw [hv, Buffer.read_nil]
    · rfl
    · rw [hb, Buffer.read_cons, if_neg (Nat.lt_irrefl a), if_pos rfl]
    · rw [Buffer.read_cons, if_neg hb, Buffer.read_nil, ite_self]
  | cons c rest ih =>
    obtain ⟨k, x⟩ := c
    have hw := Buffer.wfFrom_cons.mp h
    have hbelow : b ≤ k → Buffer.read rest b = 0#8 := fun hb => Buffer.read_below hw.2.2.2 (by omega)
    unfold Buffer.write
    rcases Nat.lt_trichotomy a k with hlt | rfl | hgt
    · rw [if_pos hlt]
      by_cases hv : v = 0#8
      · rw [if_pos hv]
        by_cases hb : b = a
        · rw [if_pos hb, Buffer.read_cons, if_pos (by omega), hv]
        · rw [if_neg hb]
      · rw [if_neg hv, Buffer.read_cons]
        by_cases hb : b = a
        · simp [hb]
        · by_cases hba : b < a
          · rw [if_pos hba, if_neg hb, Buffer.read_cons, if_pos (by omega)]
          · rw [if_neg hba, if_neg hb]
    · rw [if_neg (Nat.lt_irrefl a), if_pos rfl]
      by_cases hb : b = a
      · rw [if_pos hb]
        by_cases hv : v = 0#8
        · rw [if_pos hv, hbelow (by omega), hv]
        · rw [if_neg hv, Buffer.read_cons, if_neg (by omega), if_pos hb]
      · rw [if_neg hb, Buffer.read_cons]
        by_cases hba : b < a
        · rw [if_pos hba]
          split_ifs
          · exact hbelow (by omega)
          · rw [Buffer.read_cons, if_pos hba]
        · rw [if_neg hba, if_neg hb]
          split_ifs
          · rfl
          · rw [Buffer.read_cons, if_neg hba, if_neg hb]
    · rw [if_neg (by omega), if_neg (by omega), Buffer.read_cons, Buffer.read_cons, ih hw.2.2.2]
      by_cases hb : b = a
      · rw [if_pos hb, if_pos hb, if_neg (by omega), if_neg (by omega)]
      · rw [if_neg hb, if_neg hb]

/-- Every byte after a write. -/
theorem Buffer.read_write {size a : Nat} {v : Byte} {m : Buffer} (h : Buffer.wf size m = true) (b : Nat) :
    Buffer.read (Buffer.write m a v) b = if b = a then v else Buffer.read m b :=
  Buffer.read_write_from b h

theorem Buffer.wfFrom_write {size a : Nat} {v : Byte} {m : Buffer} {lo : Nat}
    (h : Buffer.wfFrom lo size m = true) (hlo : lo ≤ a) (ha : a < size) :
    Buffer.wfFrom lo size (Buffer.write m a v) = true := by
  induction m generalizing lo with
  | nil =>
    by_cases hv : v = 0#8 <;> simp [Buffer.write, Buffer.wfFrom, hv, hlo, ha]
  | cons c rest ih =>
    obtain ⟨k, x⟩ := c
    have hw := Buffer.wfFrom_cons.mp h
    unfold Buffer.write
    split_ifs with h1 h2 h3 h4
    · exact h
    · exact Buffer.wfFrom_cons.mpr ⟨hlo, ha, h2, Buffer.wfFrom_cons.mpr ⟨by omega, hw.2⟩⟩
    · exact Buffer.wfFrom_mono (by omega) hw.2.2.2
    · exact Buffer.wfFrom_cons.mpr ⟨hlo, ha, h4, h3 ▸ hw.2.2.2⟩
    · exact Buffer.wfFrom_cons.mpr ⟨hw.1, hw.2.1, hw.2.2.1, ih hw.2.2.2 (by omega)⟩

/-- A write inside the buffer keeps the canonical form. -/
theorem Buffer.wf_write {size a : Nat} {v : Byte} {m : Buffer} (h : Buffer.wf size m = true) (ha : a < size) :
    Buffer.wf size (Buffer.write m a v) = true :=
  Buffer.wfFrom_write h (Nat.zero_le a) ha

theorem Buffer.eq_of_read_from {size : Nat} {m m' : Buffer} {lo : Nat} (h : Buffer.wfFrom lo size m = true)
    (h' : Buffer.wfFrom lo size m' = true) (hr : ∀ a, Buffer.read m a = Buffer.read m' a) : m = m' := by
  induction m generalizing m' lo with
  | nil =>
    cases m' with
    | nil => rfl
    | cons c rest =>
      obtain ⟨k, v⟩ := c
      have hw := Buffer.wfFrom_cons.mp h'
      exact absurd (hr k).symm (by simp [Buffer.read_cons, hw.2.2.1])
  | cons c rest ih =>
    obtain ⟨k, v⟩ := c
    have hw := Buffer.wfFrom_cons.mp h
    cases m' with
    | nil => exact absurd (hr k) (by simp [Buffer.read_cons, hw.2.2.1])
    | cons c' rest' =>
      obtain ⟨k', v'⟩ := c'
      have hw' := Buffer.wfFrom_cons.mp h'
      have hk : k = k' := by
        rcases Nat.lt_trichotomy k k' with hlt | heq | hgt
        · exact absurd (hr k) (by simp [Buffer.read_cons, hlt, hw.2.2.1])
        · exact heq
        · exact absurd (hr k').symm (by simp [Buffer.read_cons, hgt, hw'.2.2.1])
      subst hk
      have hv : v = v' := by simpa [Buffer.read_cons] using hr k
      subst hv
      have : rest = rest' := by
        refine ih hw.2.2.2 hw'.2.2.2 fun a => ?_
        by_cases ha : a ≤ k
        · rw [Buffer.read_below hw.2.2.2 (by omega), Buffer.read_below hw'.2.2.2 (by omega)]
        · have := hr a
          rwa [Buffer.read_cons, Buffer.read_cons, if_neg (by omega), if_neg (by omega), if_neg (by omega),
            if_neg (by omega)] at this
      rw [this]

@[simp] theorem Buffer.slice_length (m : Buffer) (a len : Nat) : (Buffer.slice m a len).length = len := by
  simp [Buffer.slice]

/-- A slice is read byte by byte. -/
theorem Buffer.slice_congr {m m' : Buffer} {a len : Nat}
    (h : ∀ i < len, Buffer.read m (a + i) = Buffer.read m' (a + i)) : Buffer.slice m a len = Buffer.slice m' a len := by
  apply List.map_congr_left
  intro i hi
  exact h i (List.mem_range.mp hi)

end Sys2Proof.Machine
end

