-- ==== Sys2Proof/Laws/State.lean ====
section
/-! SUPPORT. One lemma per field per update of State, each true by rfl: what every shared update of Machine/Ops.lean and
Machine/Outputs.lean leaves in each field. -/

namespace Sys2Proof.Machine

@[simp] theorem State.tick_parser (s : State) : s.tick.parser = s.parser := rfl
@[simp] theorem State.tick_evtValid (s : State) : s.tick.evtValid = s.evtValid := rfl
@[simp] theorem State.tick_evtKind (s : State) : s.tick.evtKind = s.evtKind := rfl
@[simp] theorem State.tick_evtWait (s : State) : s.tick.evtWait = s.evtWait := rfl
@[simp] theorem State.tick_plPipe (s : State) : s.tick.plPipe = s.plPipe := rfl
@[simp] theorem State.tick_pins (s : State) : s.tick.pins = s.pins.tail := rfl
@[simp] theorem State.tick_ports (s : State) : s.tick.ports = s.ports := rfl
@[simp] theorem State.tick_stream (s : State) : s.tick.stream = s.stream := rfl
@[simp] theorem State.tick_events (s : State) : s.tick.events = s.events := rfl
@[simp] theorem State.tick_released (s : State) : s.tick.released = s.released := rfl
@[simp] theorem State.tick_freeTick (s : State) : s.tick.freeTick = s.freeTick + 1 := rfl

@[simp] theorem State.quiet_parser (r : Bool) (s : State) : (s.quiet r).parser = s.parser := rfl
@[simp] theorem State.quiet_evtValid (r : Bool) (s : State) : (s.quiet r).evtValid = s.evtValid := rfl
@[simp] theorem State.quiet_evtKind (r : Bool) (s : State) : (s.quiet r).evtKind = s.evtKind := rfl
@[simp] theorem State.quiet_evtWait (r : Bool) (s : State) : (s.quiet r).evtWait = s.evtWait := rfl
@[simp] theorem State.quiet_plPipe (r : Bool) (s : State) : (s.quiet r).plPipe = s.plPipe := rfl
@[simp] theorem State.quiet_pins (r : Bool) (s : State) : (s.quiet r).pins = s.pins := rfl
@[simp] theorem State.quiet_ports (r : Bool) (s : State) : (s.quiet r).ports = { Config.freePorts s.freeTick with inReady := r, evtValid := false } := rfl
@[simp] theorem State.quiet_stream (r : Bool) (s : State) : (s.quiet r).stream = s.stream := rfl
@[simp] theorem State.quiet_events (r : Bool) (s : State) : (s.quiet r).events = s.events := rfl
@[simp] theorem State.quiet_released (r : Bool) (s : State) : (s.quiet r).released = s.released := rfl
@[simp] theorem State.quiet_freeTick (r : Bool) (s : State) : (s.quiet r).freeTick = s.freeTick := rfl

@[simp] theorem State.accept_parser (b : Byte) (s : State) : (s.accept b).parser = s.parser := rfl
@[simp] theorem State.accept_evtValid (b : Byte) (s : State) : (s.accept b).evtValid = s.evtValid := rfl
@[simp] theorem State.accept_evtKind (b : Byte) (s : State) : (s.accept b).evtKind = s.evtKind := rfl
@[simp] theorem State.accept_evtWait (b : Byte) (s : State) : (s.accept b).evtWait = s.evtWait := rfl
@[simp] theorem State.accept_plPipe (b : Byte) (s : State) : (s.accept b).plPipe = s.plPipe := rfl
@[simp] theorem State.accept_pins (b : Byte) (s : State) : (s.accept b).pins = s.pins := rfl
@[simp] theorem State.accept_ports (b : Byte) (s : State) : (s.accept b).ports = s.ports := rfl
@[simp] theorem State.accept_stream (b : Byte) (s : State) : (s.accept b).stream = s.stream ++ [b] := rfl
@[simp] theorem State.accept_events (b : Byte) (s : State) : (s.accept b).events = s.events := rfl
@[simp] theorem State.accept_released (b : Byte) (s : State) : (s.accept b).released = s.released := rfl
@[simp] theorem State.accept_freeTick (b : Byte) (s : State) : (s.accept b).freeTick = s.freeTick := rfl

@[simp] theorem State.raise_parser (cfg : Config) (s : State) (e : Event) : (s.raise cfg e).parser = s.parser := rfl
@[simp] theorem State.raise_evtValid (cfg : Config) (s : State) (e : Event) : (s.raise cfg e).evtValid = decide (cfg.evtLatency ≤ 1) := rfl
@[simp] theorem State.raise_evtKind (cfg : Config) (s : State) (e : Event) : (s.raise cfg e).evtKind = e.kind := rfl
@[simp] theorem State.raise_evtWait (cfg : Config) (s : State) (e : Event) : (s.raise cfg e).evtWait = cfg.evtLatency - 1 := rfl
@[simp] theorem State.raise_plPipe (cfg : Config) (s : State) (e : Event) : (s.raise cfg e).plPipe = s.plPipe := rfl
@[simp] theorem State.raise_pins (cfg : Config) (s : State) (e : Event) : (s.raise cfg e).pins = s.pins := rfl
@[simp] theorem State.raise_ports (cfg : Config) (s : State) (e : Event) : (s.raise cfg e).ports = s.ports := rfl
@[simp] theorem State.raise_stream (cfg : Config) (s : State) (e : Event) : (s.raise cfg e).stream = s.stream := rfl
@[simp] theorem State.raise_events (cfg : Config) (s : State) (e : Event) : (s.raise cfg e).events = s.events ++ [e] := rfl
@[simp] theorem State.raise_released (cfg : Config) (s : State) (e : Event) : (s.raise cfg e).released = s.released := rfl
@[simp] theorem State.raise_freeTick (cfg : Config) (s : State) (e : Event) : (s.raise cfg e).freeTick = s.freeTick := rfl

@[simp] theorem State.latencyEdge_parser (s : State) : s.latencyEdge.parser = s.parser := rfl
@[simp] theorem State.latencyEdge_evtValid (s : State) : s.latencyEdge.evtValid = decide (s.evtWait = 1) := rfl
@[simp] theorem State.latencyEdge_evtKind (s : State) : s.latencyEdge.evtKind = s.evtKind := rfl
@[simp] theorem State.latencyEdge_evtWait (s : State) : s.latencyEdge.evtWait = s.evtWait - 1 := rfl
@[simp] theorem State.latencyEdge_plPipe (s : State) : s.latencyEdge.plPipe = s.plPipe := rfl
@[simp] theorem State.latencyEdge_pins (s : State) : s.latencyEdge.pins = s.pins := rfl
@[simp] theorem State.latencyEdge_ports (s : State) : s.latencyEdge.ports = s.ports := rfl
@[simp] theorem State.latencyEdge_stream (s : State) : s.latencyEdge.stream = s.stream := rfl
@[simp] theorem State.latencyEdge_events (s : State) : s.latencyEdge.events = s.events := rfl
@[simp] theorem State.latencyEdge_released (s : State) : s.latencyEdge.released = s.released := rfl
@[simp] theorem State.latencyEdge_freeTick (s : State) : s.latencyEdge.freeTick = s.freeTick := rfl

@[simp] theorem State.resetEdge_parser (s : State) : s.resetEdge.parser = Parser.reset := rfl
@[simp] theorem State.resetEdge_evtValid (s : State) : s.resetEdge.evtValid = false := rfl
@[simp] theorem State.resetEdge_evtKind (s : State) : s.resetEdge.evtKind = 0#2 := rfl
@[simp] theorem State.resetEdge_evtWait (s : State) : s.resetEdge.evtWait = 0 := rfl
@[simp] theorem State.resetEdge_plPipe (s : State) : s.resetEdge.plPipe = [] := rfl
@[simp] theorem State.resetEdge_pins (s : State) : s.resetEdge.pins = s.pins := rfl
@[simp] theorem State.resetEdge_ports (s : State) : s.resetEdge.ports = s.ports := rfl
@[simp] theorem State.resetEdge_stream (s : State) : s.resetEdge.stream = [] := rfl
@[simp] theorem State.resetEdge_events (s : State) : s.resetEdge.events = [] := rfl
@[simp] theorem State.resetEdge_released (s : State) : s.resetEdge.released = [] := rfl
@[simp] theorem State.resetEdge_freeTick (s : State) : s.resetEdge.freeTick = s.freeTick := rfl

@[simp] theorem State.driveEvent_parser (cfg : Config) (a : Byte) (s : State) : (s.driveEvent cfg a).parser = s.parser := rfl
@[simp] theorem State.driveEvent_evtValid (cfg : Config) (a : Byte) (s : State) : (s.driveEvent cfg a).evtValid = s.evtValid := rfl
@[simp] theorem State.driveEvent_evtKind (cfg : Config) (a : Byte) (s : State) : (s.driveEvent cfg a).evtKind = s.evtKind := rfl
@[simp] theorem State.driveEvent_evtWait (cfg : Config) (a : Byte) (s : State) : (s.driveEvent cfg a).evtWait = s.evtWait := rfl
@[simp] theorem State.driveEvent_plPipe (cfg : Config) (a : Byte) (s : State) : (s.driveEvent cfg a).plPipe = s.plPipe := rfl
@[simp] theorem State.driveEvent_pins (cfg : Config) (a : Byte) (s : State) : (s.driveEvent cfg a).pins = s.pins := rfl
@[simp] theorem State.driveEvent_stream (cfg : Config) (a : Byte) (s : State) : (s.driveEvent cfg a).stream = s.stream := rfl
@[simp] theorem State.driveEvent_events (cfg : Config) (a : Byte) (s : State) : (s.driveEvent cfg a).events = s.events := rfl
@[simp] theorem State.driveEvent_released (cfg : Config) (a : Byte) (s : State) : (s.driveEvent cfg a).released = s.released := rfl
@[simp] theorem State.driveEvent_freeTick (cfg : Config) (a : Byte) (s : State) : (s.driveEvent cfg a).freeTick = s.freeTick := rfl

@[simp] theorem State.release_parser (s : State) : s.release.parser = s.parser := rfl
@[simp] theorem State.release_evtValid (s : State) : s.release.evtValid = false := rfl
@[simp] theorem State.release_evtKind (s : State) : s.release.evtKind = s.evtKind := rfl
@[simp] theorem State.release_evtWait (s : State) : s.release.evtWait = s.evtWait := rfl
@[simp] theorem State.release_plPipe (s : State) : s.release.plPipe = [] := rfl
@[simp] theorem State.release_pins (s : State) : s.release.pins = s.pins := rfl
@[simp] theorem State.release_ports (s : State) : s.release.ports = s.ports := rfl
@[simp] theorem State.release_stream (s : State) : s.release.stream = s.stream := rfl
@[simp] theorem State.release_events (s : State) : s.release.events = s.events := rfl
@[simp] theorem State.release_released (s : State) : s.release.released = s.released ++ [eventAtPorts s.ports s.portPayload] := rfl
@[simp] theorem State.release_freeTick (s : State) : s.release.freeTick = s.freeTick := rfl

@[simp] theorem State.driveEvent_ports_inReady (cfg : Config) (a : Byte) (s : State) :
    (s.driveEvent cfg a).ports.inReady = false := rfl
@[simp] theorem State.driveEvent_ports_evtValid (cfg : Config) (a : Byte) (s : State) :
    (s.driveEvent cfg a).ports.evtValid = true := rfl
@[simp] theorem State.driveEvent_ports_evtKind (cfg : Config) (a : Byte) (s : State) :
    (s.driveEvent cfg a).ports.evtKind = s.evtKind := rfl
@[simp] theorem State.driveEvent_ports_evtLen (cfg : Config) (a : Byte) (s : State) :
    (s.driveEvent cfg a).ports.evtLen = lengthByte s.parser.hdr := rfl
@[simp] theorem State.driveEvent_ports_hdrCtrl (cfg : Config) (a : Byte) (s : State) :
    (s.driveEvent cfg a).ports.hdrCtrl = ctrlByte s.parser.hdr := rfl
@[simp] theorem State.driveEvent_ports_hdrFunc (cfg : Config) (a : Byte) (s : State) :
    (s.driveEvent cfg a).ports.hdrFunc = s.ports.hdrFunc := rfl
@[simp] theorem State.driveEvent_ports_hdrFuncKnown (cfg : Config) (a : Byte) (s : State) :
    (s.driveEvent cfg a).ports.hdrFuncKnown = s.ports.hdrFuncKnown := rfl
@[simp] theorem State.driveEvent_ports_hdrDir (cfg : Config) (a : Byte) (s : State) :
    (s.driveEvent cfg a).ports.hdrDir = s.ports.hdrDir := rfl
@[simp] theorem State.driveEvent_ports_hdrFcb (cfg : Config) (a : Byte) (s : State) :
    (s.driveEvent cfg a).ports.hdrFcb = s.ports.hdrFcb := rfl
@[simp] theorem State.driveEvent_ports_hdrFcv (cfg : Config) (a : Byte) (s : State) :
    (s.driveEvent cfg a).ports.hdrFcv = s.ports.hdrFcv := rfl
@[simp] theorem State.driveEvent_ports_hdrDest (cfg : Config) (a : Byte) (s : State) :
    (s.driveEvent cfg a).ports.hdrDest = destination s.parser.hdr := rfl
@[simp] theorem State.driveEvent_ports_hdrSrc (cfg : Config) (a : Byte) (s : State) :
    (s.driveEvent cfg a).ports.hdrSrc = source s.parser.hdr := rfl
@[simp] theorem State.driveEvent_ports_plLen (cfg : Config) (a : Byte) (s : State) :
    (s.driveEvent cfg a).ports.plLen = s.plLen := rfl

@[simp] theorem showControl_inReady (f : ControlFields) (o : Ports) : (showControl f o).inReady = o.inReady := rfl
@[simp] theorem showControl_evtValid (f : ControlFields) (o : Ports) : (showControl f o).evtValid = o.evtValid := rfl
@[simp] theorem showControl_evtKind (f : ControlFields) (o : Ports) : (showControl f o).evtKind = o.evtKind := rfl
@[simp] theorem showControl_evtLen (f : ControlFields) (o : Ports) : (showControl f o).evtLen = o.evtLen := rfl
@[simp] theorem showControl_hdrCtrl (f : ControlFields) (o : Ports) : (showControl f o).hdrCtrl = o.hdrCtrl := rfl
@[simp] theorem showControl_hdrFunc (f : ControlFields) (o : Ports) : (showControl f o).hdrFunc = f.function.value := rfl
@[simp] theorem showControl_hdrFuncKnown (f : ControlFields) (o : Ports) : (showControl f o).hdrFuncKnown = f.function.isNamed := rfl
@[simp] theorem showControl_hdrDir (f : ControlFields) (o : Ports) : (showControl f o).hdrDir = f.isMaster := rfl
@[simp] theorem showControl_hdrFcb (f : ControlFields) (o : Ports) : (showControl f o).hdrFcb = f.fcb := rfl
@[simp] theorem showControl_hdrFcv (f : ControlFields) (o : Ports) : (showControl f o).hdrFcv = f.fcv := rfl
@[simp] theorem showControl_hdrDest (f : ControlFields) (o : Ports) : (showControl f o).hdrDest = o.hdrDest := rfl
@[simp] theorem showControl_hdrSrc (f : ControlFields) (o : Ports) : (showControl f o).hdrSrc = o.hdrSrc := rfl
@[simp] theorem showControl_plLen (f : ControlFields) (o : Ports) : (showControl f o).plLen = o.plLen := rfl
@[simp] theorem showControl_plData (f : ControlFields) (o : Ports) : (showControl f o).plData = o.plData := rfl

@[simp] theorem Parser.finish_phase (e : Event) (p : Parser) : (Parser.finish e p).1.phase = .awaitingSync1 := rfl
@[simp] theorem Parser.goto_phase (ph : Phase) (p : Parser) : (Parser.goto ph p).1.phase = ph := rfl
@[simp] theorem Parser.finish_hdr (e : Event) (p : Parser) : (Parser.finish e p).1.hdr = p.hdr := rfl
@[simp] theorem Parser.goto_hdr (ph : Phase) (p : Parser) : (Parser.goto ph p).1.hdr = p.hdr := rfl
@[simp] theorem Parser.finish_body (e : Event) (p : Parser) : (Parser.finish e p).1.body = p.body := rfl
@[simp] theorem Parser.goto_body (ph : Phase) (p : Parser) : (Parser.goto ph p).1.body = p.body := rfl
@[simp] theorem Parser.finish_events (e : Event) (p : Parser) : (Parser.finish e p).2 = [e] := rfl
@[simp] theorem Parser.goto_events (ph : Phase) (p : Parser) : (Parser.goto ph p).2 = [] := rfl

end Sys2Proof.Machine
end

