-- ==== Sys2Proof/Laws/Ops.lean ====
section
/-! SUPPORT. What each shared operation can do, said once: sequencing, committing an operation, the twelve cases of the abstract step as
equations, the machine at the default parameters, and the cases of a clock edge. -/

namespace Sys2Proof.Machine

/-! ## Sequencing and committing -/

@[simp] theorem andThen_next {σ τ φ ρ : Type} (s : σ) (f : σ → Host.Outcome τ φ ρ) : andThen (.next s) f = f s := rfl

@[simp] theorem andThen_fault {σ τ φ ρ : Type} (r : φ) (f : σ → Host.Outcome τ φ ρ) :
    andThen (.fault r : Host.Outcome σ φ ρ) f = .fault r := rfl

@[simp] theorem andThen_refused {σ τ φ ρ : Type} (r : ρ) (f : σ → Host.Outcome τ φ ρ) :
    andThen (.refused r : Host.Outcome σ φ ρ) f = .refused r := rfl

theorem andThen_eq_next {σ τ φ ρ : Type} {o : Host.Outcome σ φ ρ} {f : σ → Host.Outcome τ φ ρ} {t : τ}
    (h : andThen o f = .next t) : ∃ s, o = .next s ∧ f s = .next t := by
  cases o with
  | next s => exact ⟨s, rfl, h⟩
  | fault r => cases h
  | refused r => cases h

@[simp] theorem State.commit_silent (cfg : Config) (s : State) (p : Parser) :
    s.commit cfg (.next (p, [])) = .next { s with parser := p } := rfl

@[simp] theorem State.commit_event (cfg : Config) (s : State) (p : Parser) (e : Event) :
    s.commit cfg (.next (p, [e])) = .next (State.raise cfg { s with parser := p } e) := rfl

theorem State.commit_eq_next {cfg : Config} {s t : State} {r : OpResult} (h : s.commit cfg r = .next t) :
    ∃ p evs, r = .next (p, evs) ∧ t = evs.foldl (State.raise cfg) { s with parser := p } := by
  cases r with
  | next r => exact ⟨r.1, r.2, rfl, by cases h; rfl⟩
  | fault f => cases h
  | refused w => cases h

/-! ## The abstract step, case by case (R126). Each gives the whole next state and the events. -/

theorem Parser.step_sync1Hit (cfg : Config) {p : Parser} (h : p.phase = .awaitingSync1) :
    p.step cfg SYNC1 = .next ({ phase := .awaitingSync2, hdr := p.hdr.write 0 SYNC1, body := p.body }, []) := by
  simp [Parser.step, h, Parser.sync1Hit, Parser.goto]

theorem Parser.step_sync1Skip (cfg : Config) {p : Parser} {b : Byte} (h : p.phase = .awaitingSync1) (hb : b ≠ SYNC1) :
    p.step cfg b = .next (p, []) := by
  cases p; cases h
  simp [Parser.step, hb, Parser.sync1Skip, Parser.goto]

theorem Parser.step_sync2Hit (cfg : Config) {p : Parser} (h : p.phase = .awaitingSync2) :
    p.step cfg SYNC2 = .next ({ phase := .accumulatingHeader 2, hdr := p.hdr.write 1 SYNC2, body := p.body }, []) := by
  simp [Parser.step, h, Parser.sync2Hit, Parser.goto]

theorem Parser.step_sync2Miss (cfg : Config) {p : Parser} {b : Byte} (h : p.phase = .awaitingSync2) (hb : b ≠ SYNC2) :
    p.step cfg b = .next ({ p with phase := .awaitingSync1 }, []) := by
  simp [Parser.step, h, hb, Parser.sync2Miss, Parser.goto]

theorem Parser.step_hdrAcc (cfg : Config) {p : Parser} {n : Nat} (b : Byte) (h : p.phase = .accumulatingHeader n)
    (hn : n + 1 < 10) :
    p.step cfg b = .next ({ phase := .accumulatingHeader (n + 1), hdr := p.hdr.write n b, body := p.body }, []) := by
  simp [Parser.step, h, HDR_SIZE, hn, Parser.hdrAcc, Parser.goto]

/-- The byte that completes a header: the four outcomes of R96 in their order. -/
theorem Parser.step_hdrEnd (cfg : Config) {p : Parser} {n : Nat} (b : Byte) (h : p.phase = .accumulatingHeader n)
    (hn : ¬n + 1 < 10) :
    p.step cfg b = .next (
      let hdr := p.hdr.write 9 b
      let q : Parser := { phase := .awaitingSync1, hdr := hdr, body := p.body }
      if (lengthByte hdr).toNat < 5 then (q, [.error (.badLength (lengthByte hdr))])
      else if cfg.crc16 (headerSpan hdr) ≠ headerCrc hdr then (q, [.error .badHeaderCrc])
      else if (lengthByte hdr).toNat = 5 then (q, [.frame (headerOf cfg hdr) []])
      else ({ q with phase := .accumulatingBody 0 (bodySize (userDataLength hdr)) (userDataLength hdr) }, [])) := by
  simp only [Parser.step, h, HDR_SIZE, hn, if_false, Parser.completeHeader, MIN_LEN, Parser.hdrBadLength,
    Parser.hdrBadCrc, Parser.hdrFrameEmpty, Parser.hdrToBody, Parser.hdrEnd, Parser.finish, Parser.goto]
  split_ifs <;> rfl

theorem Parser.step_bodyAcc (cfg : Config) {p : Parser} {r rem udl : Nat} (b : Byte)
    (h : p.phase = .accumulatingBody r rem udl) (hrem : rem > 1) (hr : r < 282) :
    p.step cfg b =
      .next ({ phase := .accumulatingBody (r + 1) (rem - 1) udl, hdr := p.hdr, body := p.body.write r b }, []) := by
  simp [Parser.step, h, hrem, hr, MAX_BODY, Parser.bodyAcc, Parser.goto]

/-- The byte that completes a body: the two outcomes of R109. -/
theorem Parser.step_bodyEnd (cfg : Config) {p : Parser} {r rem udl : Nat} (b : Byte)
    (h : p.phase = .accumulatingBody r rem udl) (hrem : ¬rem > 1) (hr : r < 282) (hu : bodySize udl ≤ 282) :
    p.step cfg b = .next (
      let q : Parser := { phase := .awaitingSync1, hdr := p.hdr, body := p.body.write r b }
      (q, [if blocksOk cfg q.body udl then .frame (headerOf cfg p.hdr) (payload q.body udl)
           else .error .badBodyCrc])) := by
  simp only [Parser.step, h, hrem, if_false, Parser.completeBody, Parser.bodyFrame, Parser.bodyBadCrc, Parser.bodyEnd,
    MAX_BODY, hr, hu, and_self, if_true, Parser.finish]
  split_ifs <;> rfl

/-! ## The machine at the default parameters -/

/-- `exec` is `execWith` at the defaults. -/
theorem execWith_standard (i : Instr) (s : State) : execWith Config.standard i s = exec i s := by
  cases i <;> rfl

/-- `step` is `stepWith` at the defaults. -/
theorem stepWith_standard (s : State) : stepWith Config.standard s = step s := by
  have h : execWith Config.standard = exec := by
    funext i s
    exact execWith_standard i s
  rw [stepWith, step, h]

/-- A run is cut anywhere. -/
theorem runWith_add (cfg : Config) (m n : Nat) (s : State) :
    runWith cfg (m + n) s = andThen (runWith cfg m s) (runWith cfg n) := by
  induction m generalizing s with
  | zero => rw [Nat.zero_add]; rfl
  | succ m ih =>
    rw [show m + 1 + n = (m + n) + 1 by omega, runWith, runWith]
    cases stepWith cfg s <;> simp [andThen, ih]

@[simp] theorem runWith_zero (cfg : Config) (s : State) : runWith cfg 0 s = .next s := rfl

theorem runWith_succ (cfg : Config) (k : Nat) (s : State) :
    runWith cfg (k + 1) s = andThen (stepWith cfg s) (runWith cfg k) := rfl

/-! ## The function tag (R74) -/

/-- The masked value is carried whether it is named or not. -/
@[simp] theorem function_value (cfg : Config) (fn : Byte) : (cfg.function fn).value = fn := by
  unfold Config.function; split <;> rfl

@[simp] theorem Event.untagged_error (r : ParseError) : (Event.error r).untagged = .error r := rfl

/-- A change of the named set shows in the tag alone. -/
theorem Event.untagged_frame_named (cfg : Config) (names : List Byte) (hdr : Buffer) (pl : List Byte) :
    (Event.frame (headerOf { cfg with named := names } hdr) pl).untagged = (Event.frame (headerOf cfg hdr) pl).untagged := by
  simp [Event.untagged, headerOf, decodeControl]

/-! ## A clock edge, case by case (Machine/Cycle.lean) -/

variable {cfg : Config} {run : Instr → State → Out} {s : State}

theorem State.cycle_reset (h : s.nextPins.rst = true) :
    s.cycle cfg run = .next (s.tick.quiet false).resetEdge := by
  simp [State.cycle, h]

theorem State.cycle_pending (h : s.nextPins.rst = false) (hv : s.evtValid = true) :
    s.cycle cfg run = andThen (run s.parser.fetchControl s.tick) fun t =>
      .next ((t.driveEvent cfg s.nextPins.plAddr).consumerEdge cfg s.nextPins) := by
  simp [State.cycle, h, hv]

theorem State.cycle_waiting (h : s.nextPins.rst = false) (hv : s.evtValid = false) (hw : s.evtWait ≠ 0) :
    s.cycle cfg run = .next (s.tick.quiet false).latencyEdge := by
  simp [State.cycle, h, hv, hw]

theorem State.cycle_accept (h : s.nextPins.rst = false) (hv : s.evtValid = false) (hw : s.evtWait = 0)
    (hi : s.nextPins.inValid = true) :
    s.cycle cfg run =
      run (s.parser.fetch cfg s.nextPins.inData) ((s.tick.quiet true).accept s.nextPins.inData) := by
  simp [State.cycle, h, hv, hw, hi]

theorem State.cycle_hold (h : s.nextPins.rst = false) (hv : s.evtValid = false) (hw : s.evtWait = 0)
    (hi : s.nextPins.inValid = false) : s.cycle cfg run = .next (s.tick.quiet true) := by
  simp [State.cycle, h, hv, hw, hi]

end Sys2Proof.Machine
end

