-- ==== Sys2Proof/Laws/Exec.lean ====
section
/-! SUPPORT. One equation per input-byte operation: the whole next state of the machine, in the phase that is its operand. The provers cite these
instead of unfolding the meanings. -/

namespace Sys2Proof.Machine

variable {s : State} {b : Byte}

theorem exec_sync1Hit (h : s.parser.phase = .awaitingSync1) :
    exec .sync1Hit s = .next { s with parser :=
      { phase := .awaitingSync2, hdr := s.parser.hdr.write 0 SYNC1, body := s.parser.body } } := by
  simp [exec, execSync1Hit, Parser.sync1Hit, h, Parser.goto]

theorem exec_sync1Skip (h : s.parser.phase = .awaitingSync1) : exec (.sync1Skip b) s = .next s := by
  obtain ⟨⟨ph, hdr, body⟩, _, _, _, _, _, _, _, _, _, _⟩ := s
  cases h
  rfl

theorem exec_sync2Hit (h : s.parser.phase = .awaitingSync2) :
    exec .sync2Hit s = .next { s with parser :=
      { phase := .accumulatingHeader 2, hdr := s.parser.hdr.write 1 SYNC2, body := s.parser.body } } := by
  simp [exec, execSync2Hit, Parser.sync2Hit, h, Parser.goto]

theorem exec_sync2Miss (h : s.parser.phase = .awaitingSync2) :
    exec (.sync2Miss b) s = .next { s with parser := { s.parser with phase := .awaitingSync1 } } := by
  simp [exec, execSync2Miss, Parser.sync2Miss, h, Parser.goto]

theorem exec_hdrAcc {n : Nat} (h : s.parser.phase = .accumulatingHeader n) (hn : n + 1 < 10) :
    exec (.hdrAcc b) s = .next { s with parser :=
      { phase := .accumulatingHeader (n + 1), hdr := s.parser.hdr.write n b, body := s.parser.body } } := by
  simp [exec, execHdrAcc, Parser.hdrAcc, h, HDR_SIZE, hn, Parser.goto]

/-- The abstract state after a completing header byte. -/
def Parser.headerDone (p : Parser) (b : Byte) : Parser :=
  { phase := .awaitingSync1, hdr := p.hdr.write 9 b, body := p.body }

/-- The abstract state after a completing body byte. -/
def Parser.bodyDone (p : Parser) (r : Nat) (b : Byte) : Parser :=
  { phase := .awaitingSync1, hdr := p.hdr, body := p.body.write r b }

theorem exec_hdrBadLength {n : Nat} (h : s.parser.phase = .accumulatingHeader n) (hn : ¬n + 1 < 10) :
    exec (.hdrBadLength b) s = .next (State.raise Config.standard { s with parser := s.parser.headerDone b }
      (.error (.badLength (lengthByte (s.parser.hdr.write 9 b))))) := by
  simp [exec, execHdrBadLength, Parser.hdrBadLength, Parser.hdrEnd, h, HDR_SIZE, hn, Parser.finish, Parser.headerDone]

theorem exec_hdrBadCrc {n : Nat} (h : s.parser.phase = .accumulatingHeader n) (hn : ¬n + 1 < 10) :
    exec (.hdrBadCrc b) s = .next (State.raise Config.standard { s with parser := s.parser.headerDone b }
      (.error .badHeaderCrc)) := by
  simp [exec, execHdrBadCrc, Parser.hdrBadCrc, Parser.hdrEnd, h, HDR_SIZE, hn, Parser.finish, Parser.headerDone]

theorem exec_hdrFrameEmpty {n : Nat} (h : s.parser.phase = .accumulatingHeader n) (hn : ¬n + 1 < 10) :
    exec (.hdrFrameEmpty b) s = .next (State.raise Config.standard { s with parser := s.parser.headerDone b }
      (.frame (headerOf Config.standard (s.parser.hdr.write 9 b)) [])) := by
  simp [exec, execHdrFrameEmpty, Parser.hdrFrameEmpty, Parser.hdrEnd, h, HDR_SIZE, hn, Parser.finish, Parser.headerDone]

theorem exec_hdrToBody {n : Nat} (h : s.parser.phase = .accumulatingHeader n) (hn : ¬n + 1 < 10) :
    exec (.hdrToBody b) s = .next { s with parser := { s.parser.headerDone b with
      phase := .accumulatingBody 0 (bodySize (userDataLength (s.parser.hdr.write 9 b)))
        (userDataLength (s.parser.hdr.write 9 b)) } } := by
  simp [exec, execHdrToBody, Parser.hdrToBody, Parser.hdrEnd, h, HDR_SIZE, hn, Parser.goto, Parser.headerDone]

theorem exec_bodyAcc {r rem udl : Nat} (h : s.parser.phase = .accumulatingBody r rem udl) (hrem : rem > 1)
    (hr : r < 282) :
    exec (.bodyAcc b) s = .next { s with parser :=
      { phase := .accumulatingBody (r + 1) (rem - 1) udl, hdr := s.parser.hdr, body := s.parser.body.write r b } } := by
  simp [exec, execBodyAcc, Parser.bodyAcc, h, hrem, hr, MAX_BODY, Parser.goto]

theorem exec_bodyBadCrc {r rem udl : Nat} (h : s.parser.phase = .accumulatingBody r rem udl) (hrem : ¬rem > 1)
    (hr : r < 282) (hu : bodySize udl ≤ 282) :
    exec (.bodyBadCrc b) s = .next (State.raise Config.standard { s with parser := s.parser.bodyDone r b }
      (.error .badBodyCrc)) := by
  simp [exec, execBodyBadCrc, Parser.bodyBadCrc, Parser.bodyEnd, h, hrem, hr, hu, MAX_BODY, Parser.finish, Parser.bodyDone]

theorem exec_bodyFrame {r rem udl : Nat} (h : s.parser.phase = .accumulatingBody r rem udl) (hrem : ¬rem > 1)
    (hr : r < 282) (hu : bodySize udl ≤ 282) :
    exec (.bodyFrame b) s = .next (State.raise Config.standard { s with parser := s.parser.bodyDone r b }
      (.frame (headerOf Config.standard s.parser.hdr) (payload (s.parser.body.write r b) udl))) := by
  simp [exec, execBodyFrame, Parser.bodyFrame, Parser.bodyEnd, h, hrem, hr, hu, MAX_BODY, Parser.finish, Parser.bodyDone]

/-! ## The header fields once the completing byte is in place -/

theorem lengthByte_write_nine {m : Buffer} (h : m.wf 10 = true) : lengthByte (m.write 9 b) = m.read 2 := by
  simp [lengthByte, Buffer.read_write h]

theorem headerCrc_write_nine {m : Buffer} (h : m.wf 10 = true) : headerCrc (m.write 9 b) = le16 (m.read 8) b := by
  simp [headerCrc, Buffer.read_write h]

theorem headerSpan_write_nine {m : Buffer} (h : m.wf 10 = true) : headerSpan (m.write 9 b) = m.slice 0 8 :=
  Buffer.slice_congr fun i hi => by
    rw [Buffer.read_write h, if_neg (by simp only [HDR_CRC_SPAN] at hi; omega)]

theorem headerOf_write_nine (cfg : Config) {m : Buffer} (h : m.wf 10 = true) :
    headerOf cfg (m.write 9 b) =
      { control := decodeControl cfg (m.read 3), destination := le16 (m.read 4) (m.read 5),
        source := le16 (m.read 6) (m.read 7) } := by
  simp [headerOf, ctrlByte, destination, source, Buffer.read_write h]

end Sys2Proof.Machine
end

