-- ==== Sys2Proof/Laws/Fetch.lean ====
section
/-! SUPPORT. Which instruction the accepted byte is, phase by phase (30_encoding R60), as equations; and what the clock-edge operations
leave alone. -/

namespace Sys2Proof.Machine

variable {cfg : Config} {p : Parser} {b : Byte}

/-! ## The fetched instruction -/

theorem Parser.fetch_sync1 (h : p.phase = .awaitingSync1) :
    p.fetch cfg b = if b = SYNC1 then .sync1Hit else .sync1Skip b := by
  simp [Parser.fetch, Parser.reader, h, Sys2Proof.decode]

theorem Parser.fetch_sync2 (h : p.phase = .awaitingSync2) :
    p.fetch cfg b = if b = SYNC2 then .sync2Hit else .sync2Miss b := by
  simp [Parser.fetch, Parser.reader, h, Sys2Proof.decode]

theorem Parser.fetch_header {n : Nat} (h : p.phase = .accumulatingHeader n) (hn : n + 1 < 10) :
    p.fetch cfg b = .hdrAcc b := by
  simp [Parser.fetch, Parser.reader, h, hn, Sys2Proof.decode]

theorem Parser.fetch_headerEnd {n : Nat} (h : p.phase = .accumulatingHeader n) (hn : ¬n + 1 < 10) :
    p.fetch cfg b =
      if (lengthByte (p.hdr.write 9 b)).toNat < 5 then .hdrBadLength b
      else if cfg.crc16 (headerSpan (p.hdr.write 9 b)) ≠ headerCrc (p.hdr.write 9 b) then .hdrBadCrc b
      else if (lengthByte (p.hdr.write 9 b)).toNat = 5 then .hdrFrameEmpty b
      else .hdrToBody b := by
  by_cases hc : cfg.crc16 (headerSpan (p.hdr.write 9 b)) = headerCrc (p.hdr.write 9 b) <;>
    simp [Parser.fetch, Parser.reader, h, hn, Sys2Proof.decode, decodeHeaderEnd, headerCrcOk, hc]

theorem Parser.fetch_body {r rem udl : Nat} (h : p.phase = .accumulatingBody r rem udl) (hr : rem > 1) :
    p.fetch cfg b = .bodyAcc b := by
  simp [Parser.fetch, Parser.reader, h, hr, Sys2Proof.decode]

theorem Parser.fetch_bodyEnd {r rem udl : Nat} (h : p.phase = .accumulatingBody r rem udl) (hr : ¬rem > 1) :
    p.fetch cfg b = if blocksOk cfg (p.body.write r b) udl then .bodyFrame b else .bodyBadCrc b := by
  simp [Parser.fetch, Parser.reader, h, hr, Sys2Proof.decode]

/-- Every block passes, as a statement about each block (43_body R109). -/
theorem blocksOk_iff {body : Buffer} {udl : Nat} :
    blocksOk cfg body udl = true ↔ ∀ k < blockCount udl, cfg.crc16 (blockData body udl k) = blockCrc body udl k := by
  simp [blocksOk, blockOk]

/-! ## The consumer's edge: only the event register, the payload pipeline and the record of released events may change -/

variable (cfg) (pin : Pins) (s : State)

@[simp] theorem State.consumerEdge_parser : (s.consumerEdge cfg pin).parser = s.parser := by
  unfold State.consumerEdge; split <;> rfl

@[simp] theorem State.consumerEdge_evtKind : (s.consumerEdge cfg pin).evtKind = s.evtKind := by
  unfold State.consumerEdge; split <;> rfl

@[simp] theorem State.consumerEdge_evtWait : (s.consumerEdge cfg pin).evtWait = s.evtWait := by
  unfold State.consumerEdge; split <;> rfl

@[simp] theorem State.consumerEdge_pins : (s.consumerEdge cfg pin).pins = s.pins := by
  unfold State.consumerEdge; split <;> rfl

@[simp] theorem State.consumerEdge_ports : (s.consumerEdge cfg pin).ports = s.ports := by
  unfold State.consumerEdge; split <;> rfl

@[simp] theorem State.consumerEdge_stream : (s.consumerEdge cfg pin).stream = s.stream := by
  unfold State.consumerEdge; split <;> rfl

@[simp] theorem State.consumerEdge_events : (s.consumerEdge cfg pin).events = s.events := by
  unfold State.consumerEdge; split <;> rfl

theorem State.consumerEdge_ack (h : pin.evtAck = true) : s.consumerEdge cfg pin = s.release := by
  simp [State.consumerEdge, h]

theorem State.consumerEdge_hold (h : pin.evtAck = false) :
    s.consumerEdge cfg pin = { s with plPipe := (pin.plAddr :: s.plPipe).take cfg.plReadLatency } := by
  simp [State.consumerEdge, h]

end Sys2Proof.Machine
end

