-- ==== Sys2Proof/Laws/PerInstr.lean ====
section
/-! SUPPORT. Per instruction: its byte meets the mask and the pattern spec/opcode_table.json gives its row ("mask" and "match"), whatever
its operands; and some reader selects it, so no row is out of reach of the decoder. -/

namespace Sys2Proof.Laws.TableRow

/-- The mask of a row. -/
def mask (i : Instr) : Byte :=
  match i with
  | .sync1Hit => 0xFF#8
  | .sync1Skip _ => 0x00#8
  | .sync2Hit => 0xFF#8
  | .sync2Miss _ => 0x00#8
  | .hdrAcc _ => 0x00#8
  | .hdrBadLength _ => 0x00#8
  | .hdrBadCrc _ => 0x00#8
  | .hdrFrameEmpty _ => 0x00#8
  | .hdrToBody _ => 0x00#8
  | .bodyAcc _ => 0x00#8
  | .bodyBadCrc _ => 0x00#8
  | .bodyFrame _ => 0x00#8
  | .resetLinkStates _ _ _ => 0x4F#8
  | .unknown41 _ _ _ => 0x4F#8
  | .testLinkStates _ _ _ => 0x4F#8
  | .confirmedUserData _ _ _ => 0x4F#8
  | .unconfirmedUserData _ _ _ => 0x4F#8
  | .unknown45 _ _ _ => 0x4F#8
  | .unknown46 _ _ _ => 0x4F#8
  | .unknown47 _ _ _ => 0x4F#8
  | .unknown48 _ _ _ => 0x4F#8
  | .requestLinkStatus _ _ _ => 0x4F#8
  | .unknown4a _ _ _ => 0x4F#8
  | .unknown4b _ _ _ => 0x4F#8
  | .unknown4c _ _ _ => 0x4F#8
  | .unknown4d _ _ _ => 0x4F#8
  | .unknown4e _ _ _ => 0x4F#8
  | .unknown4f _ _ _ => 0x4F#8
  | .ack _ _ _ => 0x4F#8
  | .nack _ _ _ => 0x4F#8
  | .unknown02 _ _ _ => 0x4F#8
  | .unknown03 _ _ _ => 0x4F#8
  | .unknown04 _ _ _ => 0x4F#8
  | .unknown05 _ _ _ => 0x4F#8
  | .unknown06 _ _ _ => 0x4F#8
  | .unknown07 _ _ _ => 0x4F#8
  | .unknown08 _ _ _ => 0x4F#8
  | .unknown09 _ _ _ => 0x4F#8
  | .unknown0a _ _ _ => 0x4F#8
  | .linkStatus _ _ _ => 0x4F#8
  | .unknown0c _ _ _ => 0x4F#8
  | .unknown0d _ _ _ => 0x4F#8
  | .unknown0e _ _ _ => 0x4F#8
  | .notSupported _ _ _ => 0x4F#8

/-- The pattern of a row. -/
def pattern (i : Instr) : Byte :=
  match i with
  | .sync1Hit => 0x05#8
  | .sync1Skip _ => 0x00#8
  | .sync2Hit => 0x64#8
  | .sync2Miss _ => 0x00#8
  | .hdrAcc _ => 0x00#8
  | .hdrBadLength _ => 0x00#8
  | .hdrBadCrc _ => 0x00#8
  | .hdrFrameEmpty _ => 0x00#8
  | .hdrToBody _ => 0x00#8
  | .bodyAcc _ => 0x00#8
  | .bodyBadCrc _ => 0x00#8
  | .bodyFrame _ => 0x00#8
  | .resetLinkStates _ _ _ => 0x40#8
  | .unknown41 _ _ _ => 0x41#8
  | .testLinkStates _ _ _ => 0x42#8
  | .confirmedUserData _ _ _ => 0x43#8
  | .unconfirmedUserData _ _ _ => 0x44#8
  | .unknown45 _ _ _ => 0x45#8
  | .unknown46 _ _ _ => 0x46#8
  | .unknown47 _ _ _ => 0x47#8
  | .unknown48 _ _ _ => 0x48#8
  | .requestLinkStatus _ _ _ => 0x49#8
  | .unknown4a _ _ _ => 0x4A#8
  | .unknown4b _ _ _ => 0x4B#8
  | .unknown4c _ _ _ => 0x4C#8
  | .unknown4d _ _ _ => 0x4D#8
  | .unknown4e _ _ _ => 0x4E#8
  | .unknown4f _ _ _ => 0x4F#8
  | .ack _ _ _ => 0x00#8
  | .nack _ _ _ => 0x01#8
  | .unknown02 _ _ _ => 0x02#8
  | .unknown03 _ _ _ => 0x03#8
  | .unknown04 _ _ _ => 0x04#8
  | .unknown05 _ _ _ => 0x05#8
  | .unknown06 _ _ _ => 0x06#8
  | .unknown07 _ _ _ => 0x07#8
  | .unknown08 _ _ _ => 0x08#8
  | .unknown09 _ _ _ => 0x09#8
  | .unknown0a _ _ _ => 0x0A#8
  | .linkStatus _ _ _ => 0x0B#8
  | .unknown0c _ _ _ => 0x0C#8
  | .unknown0d _ _ _ => 0x0D#8
  | .unknown0e _ _ _ => 0x0E#8
  | .notSupported _ _ _ => 0x0F#8

/-- The byte of `i` is one of its row's, and a reader selects `i`. -/
def Statement (i : Instr) : Prop := encode i &&& mask i = pattern i ∧ ∃ rd : Reader, rd.selects i = true

theorem sync1Hit : Statement .sync1Hit := ⟨rfl, .sync1, rfl⟩
theorem sync1Skip (b : Byte) : Statement (.sync1Skip b) := ⟨BitVec.and_zero, .sync1, rfl⟩
theorem sync2Hit : Statement .sync2Hit := ⟨rfl, .sync2, rfl⟩
theorem sync2Miss (b : Byte) : Statement (.sync2Miss b) := ⟨BitVec.and_zero, .sync2, rfl⟩
theorem hdrAcc (b : Byte) : Statement (.hdrAcc b) := ⟨BitVec.and_zero, .header, rfl⟩
theorem hdrBadLength (b : Byte) : Statement (.hdrBadLength b) := ⟨BitVec.and_zero, .headerEnd 4#8 true, rfl⟩
theorem hdrBadCrc (b : Byte) : Statement (.hdrBadCrc b) := ⟨BitVec.and_zero, .headerEnd 5#8 false, rfl⟩
theorem hdrFrameEmpty (b : Byte) : Statement (.hdrFrameEmpty b) := ⟨BitVec.and_zero, .headerEnd 5#8 true, rfl⟩
theorem hdrToBody (b : Byte) : Statement (.hdrToBody b) := ⟨BitVec.and_zero, .headerEnd 6#8 true, rfl⟩
theorem bodyAcc (b : Byte) : Statement (.bodyAcc b) := ⟨BitVec.and_zero, .body, rfl⟩
theorem bodyBadCrc (b : Byte) : Statement (.bodyBadCrc b) := ⟨BitVec.and_zero, .bodyEnd false, rfl⟩
theorem bodyFrame (b : Byte) : Statement (.bodyFrame b) := ⟨BitVec.and_zero, .bodyEnd true, rfl⟩
theorem resetLinkStates (d f v : Bool) : Statement (.resetLinkStates d f v) := ⟨by cases d <;> cases f <;> cases v <;> rfl, .control, rfl⟩
theorem unknown41 (d f v : Bool) : Statement (.unknown41 d f v) := ⟨by cases d <;> cases f <;> cases v <;> rfl, .control, rfl⟩
theorem testLinkStates (d f v : Bool) : Statement (.testLinkStates d f v) := ⟨by cases d <;> cases f <;> cases v <;> rfl, .control, rfl⟩
theorem confirmedUserData (d f v : Bool) : Statement (.confirmedUserData d f v) := ⟨by cases d <;> cases f <;> cases v <;> rfl, .control, rfl⟩
theorem unconfirmedUserData (d f v : Bool) : Statement (.unconfirmedUserData d f v) := ⟨by cases d <;> cases f <;> cases v <;> rfl, .control, rfl⟩
theorem unknown45 (d f v : Bool) : Statement (.unknown45 d f v) := ⟨by cases d <;> cases f <;> cases v <;> rfl, .control, rfl⟩
theorem unknown46 (d f v : Bool) : Statement (.unknown46 d f v) := ⟨by cases d <;> cases f <;> cases v <;> rfl, .control, rfl⟩
theorem unknown47 (d f v : Bool) : Statement (.unknown47 d f v) := ⟨by cases d <;> cases f <;> cases v <;> rfl, .control, rfl⟩
theorem unknown48 (d f v : Bool) : Statement (.unknown48 d f v) := ⟨by cases d <;> cases f <;> cases v <;> rfl, .control, rfl⟩
theorem requestLinkStatus (d f v : Bool) : Statement (.requestLinkStatus d f v) := ⟨by cases d <;> cases f <;> cases v <;> rfl, .control, rfl⟩
theorem unknown4a (d f v : Bool) : Statement (.unknown4a d f v) := ⟨by cases d <;> cases f <;> cases v <;> rfl, .control, rfl⟩
theorem unknown4b (d f v : Bool) : Statement (.unknown4b d f v) := ⟨by cases d <;> cases f <;> cases v <;> rfl, .control, rfl⟩
theorem unknown4c (d f v : Bool) : Statement (.unknown4c d f v) := ⟨by cases d <;> cases f <;> cases v <;> rfl, .control, rfl⟩
theorem unknown4d (d f v : Bool) : Statement (.unknown4d d f v) := ⟨by cases d <;> cases f <;> cases v <;> rfl, .control, rfl⟩
theorem unknown4e (d f v : Bool) : Statement (.unknown4e d f v) := ⟨by cases d <;> cases f <;> cases v <;> rfl, .control, rfl⟩
theorem unknown4f (d f v : Bool) : Statement (.unknown4f d f v) := ⟨by cases d <;> cases f <;> cases v <;> rfl, .control, rfl⟩
theorem ack (d f v : Bool) : Statement (.ack d f v) := ⟨by cases d <;> cases f <;> cases v <;> rfl, .control, rfl⟩
theorem nack (d f v : Bool) : Statement (.nack d f v) := ⟨by cases d <;> cases f <;> cases v <;> rfl, .control, rfl⟩
theorem unknown02 (d f v : Bool) : Statement (.unknown02 d f v) := ⟨by cases d <;> cases f <;> cases v <;> rfl, .control, rfl⟩
theorem unknown03 (d f v : Bool) : Statement (.unknown03 d f v) := ⟨by cases d <;> cases f <;> cases v <;> rfl, .control, rfl⟩
theorem unknown04 (d f v : Bool) : Statement (.unknown04 d f v) := ⟨by cases d <;> cases f <;> cases v <;> rfl, .control, rfl⟩
theorem unknown05 (d f v : Bool) : Statement (.unknown05 d f v) := ⟨by cases d <;> cases f <;> cases v <;> rfl, .control, rfl⟩
theorem unknown06 (d f v : Bool) : Statement (.unknown06 d f v) := ⟨by cases d <;> cases f <;> cases v <;> rfl, .control, rfl⟩
theorem unknown07 (d f v : Bool) : Statement (.unknown07 d f v) := ⟨by cases d <;> cases f <;> cases v <;> rfl, .control, rfl⟩
theorem unknown08 (d f v : Bool) : Statement (.unknown08 d f v) := ⟨by cases d <;> cases f <;> cases v <;> rfl, .control, rfl⟩
theorem unknown09 (d f v : Bool) : Statement (.unknown09 d f v) := ⟨by cases d <;> cases f <;> cases v <;> rfl, .control, rfl⟩
theorem unknown0a (d f v : Bool) : Statement (.unknown0a d f v) := ⟨by cases d <;> cases f <;> cases v <;> rfl, .control, rfl⟩
theorem linkStatus (d f v : Bool) : Statement (.linkStatus d f v) := ⟨by cases d <;> cases f <;> cases v <;> rfl, .control, rfl⟩
theorem unknown0c (d f v : Bool) : Statement (.unknown0c d f v) := ⟨by cases d <;> cases f <;> cases v <;> rfl, .control, rfl⟩
theorem unknown0d (d f v : Bool) : Statement (.unknown0d d f v) := ⟨by cases d <;> cases f <;> cases v <;> rfl, .control, rfl⟩
theorem unknown0e (d f v : Bool) : Statement (.unknown0e d f v) := ⟨by cases d <;> cases f <;> cases v <;> rfl, .control, rfl⟩
theorem notSupported (d f v : Bool) : Statement (.notSupported d f v) := ⟨by cases d <;> cases f <;> cases v <;> rfl, .control, rfl⟩

end Sys2Proof.Laws.TableRow
end

