-- ==== Sys2Proof/Tests/Slice0.lean ====
section
/-! SUPPORT. Tests. Expected results are the spec's own: encodings of 30_encoding R60, R61 and 40_control R76..R85, vectors of
95_test_vectors, CRC values of 44_crc16 R121. Then one witness per statement that has hypotheses. -/

open Sys2Proof Sys2Proof.Machine

set_option maxRecDepth 20000

namespace Sys2Proof.Tests

/-! ## Helpers -/

/-- A buffer holding `bs` from index 0 on. -/
def buf (bs : List Byte) : Buffer :=
  (bs.foldl (fun (m, i) b => (Buffer.write m i b, i + 1)) (([] : Buffer), 0)).1

/-- A state in phase `ph` with the given buffer contents and pins. -/
def st (ph : Phase) (hdr body : List Byte) (pins : List Pins) : State :=
  { State.reset with parser := { phase := ph, hdr := buf hdr, body := buf body }, pins := pins }

/-- The fields an accepted byte may change. -/
structure View where
  phase    : Phase
  hdr      : Buffer
  body     : Buffer
  events   : List Event
  evtValid : Bool
  evtKind  : BitVec 2
deriving DecidableEq, Repr

/-- What one edge leaves of them. -/
def view (o : Out) : Option View :=
  match o with
  | .next s => some ⟨s.parser.phase, s.parser.hdr, s.parser.body, s.events, s.evtValid, s.evtKind⟩
  | .fault _ => none
  | .refused _ => none

/-- The control decoder's result on its five outputs, after an edge or an instruction. -/
def control (o : Out) : Option ControlFields :=
  match o with
  | .next s => some ⟨if s.ports.hdrFuncKnown then .named s.ports.hdrFunc else .unknown s.ports.hdrFunc, s.ports.hdrDir,
      s.ports.hdrFcb, s.ports.hdrFcv⟩
  | .fault _ => none
  | .refused _ => none

/-- The event outputs. -/
structure Outputs where
  inReady  : Bool
  evtValid : Bool
  evtKind  : BitVec 2
  evtLen   : Byte
  hdrDest  : Half
  hdrSrc   : Half
  plLen    : Byte
deriving DecidableEq, Repr

/-- The event outputs after an edge. -/
def outputs (o : Out) : Option Outputs :=
  match o with
  | .next s => some ⟨s.ports.inReady, s.ports.evtValid, s.ports.evtKind, s.ports.evtLen, s.ports.hdrDest, s.ports.hdrSrc,
      s.ports.plLen⟩
  | .fault _ => none
  | .refused _ => none

/-- The header bytes of W1 (95 section 1). -/
def w1 : List Byte := [0x05#8, 0x64#8, 0x05#8, 0xC0#8, 0x01#8, 0x00#8, 0x00#8, 0x04#8, 0xE9#8, 0x21#8]

/-- The header bytes of W3. -/
def w3 : List Byte := [0x05#8, 0x64#8, 0x04#8, 0xC0#8, 0x01#8, 0x00#8, 0x00#8, 0x04#8, 0x0E#8, 0x94#8]

/-- The header bytes of the one-byte frame of 95 section 2.5. -/
def h6 : List Byte := [0x05#8, 0x64#8, 0x06#8, 0x44#8, 0x02#8, 0x00#8, 0x03#8, 0x00#8, 0x47#8, 0x3C#8]

/-- The largest header, program P3. -/
def hmax : List Byte := [0x05#8, 0x64#8, 0xFF#8, 0x44#8, 0xFF#8, 0xFF#8, 0x01#8, 0x00#8, 0x38#8, 0x15#8]

/-! ## Well-formedness: an ill-formed term for each check, and the same shape well-formed -/

theorem test_wellformed_sync1Skip : WellFormed (.sync1Skip 0x05#8) = false ∧ WellFormed (.sync1Skip 0x64#8) = true := by decide

theorem test_wellformed_sync2Miss : WellFormed (.sync2Miss 0x64#8) = false ∧ WellFormed (.sync2Miss 0x05#8) = true := by decide

/-! ## Decoding: every constructor, from a byte written out from the spec's encoding -/

theorem test_decode_sync1Hit : decode .sync1 0b00000101#8 = .sync1Hit := by decide

theorem test_decode_sync1Skip : decode .sync1 0b00000100#8 = .sync1Skip 0x04#8 := by decide

theorem test_decode_sync2Hit : decode .sync2 0b01100100#8 = .sync2Hit := by decide

theorem test_decode_sync2Miss : decode .sync2 0b00000101#8 = .sync2Miss 0x05#8 := by decide

theorem test_decode_hdrAcc : decode .header 0b01100100#8 = .hdrAcc 0x64#8 := by decide

/-- Length is checked before the CRC (42_header R99). -/
theorem test_decode_hdrBadLength :
    decode (.headerEnd 4#8 false) 0x00#8 = .hdrBadLength 0x00#8 ∧ decode (.headerEnd 4#8 true) 0x94#8 = .hdrBadLength 0x94#8 := by
  decide

theorem test_decode_hdrBadCrc :
    decode (.headerEnd 5#8 false) 0x21#8 = .hdrBadCrc 0x21#8 ∧ decode (.headerEnd 6#8 false) 0x3C#8 = .hdrBadCrc 0x3C#8 := by decide

theorem test_decode_hdrFrameEmpty : decode (.headerEnd 5#8 true) 0x21#8 = .hdrFrameEmpty 0x21#8 := by decide

theorem test_decode_hdrToBody :
    decode (.headerEnd 6#8 true) 0x3C#8 = .hdrToBody 0x3C#8 ∧ decode (.headerEnd 255#8 true) 0x15#8 = .hdrToBody 0x15#8 := by decide

theorem test_decode_bodyAcc : decode .body 0b00000101#8 = .bodyAcc 0x05#8 := by decide

theorem test_decode_bodyBadCrc : decode (.bodyEnd false) 0x4C#8 = .bodyBadCrc 0x4C#8 := by decide

theorem test_decode_bodyFrame : decode (.bodyEnd true) 0x4D#8 = .bodyFrame 0x4D#8 := by decide

theorem test_decode_resetLinkStates : decode .control 0b11000000#8 = .resetLinkStates true false false := by decide

theorem test_decode_unknown41 : decode .control 0b01100001#8 = .unknown41 false true false := by decide

theorem test_decode_testLinkStates : decode .control 0b01010010#8 = .testLinkStates false false true := by decide

theorem test_decode_confirmedUserData : decode .control 0b11100011#8 = .confirmedUserData true true false := by decide

theorem test_decode_unconfirmedUserData : decode .control 0b01110100#8 = .unconfirmedUserData false true true := by decide

theorem test_decode_unknown45 : decode .control 0b11010101#8 = .unknown45 true false true := by decide

theorem test_decode_unknown46 : decode .control 0b11110110#8 = .unknown46 true true true := by decide

theorem test_decode_unknown47 : decode .control 0b01000111#8 = .unknown47 false false false := by decide

theorem test_decode_unknown48 : decode .control 0b11001000#8 = .unknown48 true false false := by decide

theorem test_decode_requestLinkStatus : decode .control 0b01101001#8 = .requestLinkStatus false true false := by decide

theorem test_decode_unknown4a : decode .control 0b01011010#8 = .unknown4a false false true := by decide

theorem test_decode_unknown4b : decode .control 0b11101011#8 = .unknown4b true true false := by decide

theorem test_decode_unknown4c : decode .control 0b01111100#8 = .unknown4c false true true := by decide

theorem test_decode_unknown4d : decode .control 0b11011101#8 = .unknown4d true false true := by decide

theorem test_decode_unknown4e : decode .control 0b11111110#8 = .unknown4e true true true := by decide

theorem test_decode_unknown4f : decode .control 0b01001111#8 = .unknown4f false false false := by decide

theorem test_decode_ack : decode .control 0b10000000#8 = .ack true false false := by decide

theorem test_decode_nack : decode .control 0b00100001#8 = .nack false true false := by decide

theorem test_decode_unknown02 : decode .control 0b00010010#8 = .unknown02 false false true := by decide

theorem test_decode_unknown03 : decode .control 0b10100011#8 = .unknown03 true true false := by decide

theorem test_decode_unknown04 : decode .control 0b00110100#8 = .unknown04 false true true := by decide

theorem test_decode_unknown05 : decode .control 0b10010101#8 = .unknown05 true false true := by decide

theorem test_decode_unknown06 : decode .control 0b10110110#8 = .unknown06 true true true := by decide

theorem test_decode_unknown07 : decode .control 0b00000111#8 = .unknown07 false false false := by decide

theorem test_decode_unknown08 : decode .control 0b10001000#8 = .unknown08 true false false := by decide

theorem test_decode_unknown09 : decode .control 0b00101001#8 = .unknown09 false true false := by decide

theorem test_decode_unknown0a : decode .control 0b00011010#8 = .unknown0a false false true := by decide

theorem test_decode_linkStatus : decode .control 0b10101011#8 = .linkStatus true true false := by decide

theorem test_decode_unknown0c : decode .control 0b00111100#8 = .unknown0c false true true := by decide

theorem test_decode_unknown0d : decode .control 0b10011101#8 = .unknown0d true false true := by decide

theorem test_decode_unknown0e : decode .control 0b10111110#8 = .unknown0e true true true := by decide

theorem test_decode_notSupported : decode .control 0b00001111#8 = .notSupported false false false := by decide

/-! ## One step per input-byte operation (95 sections 1, 2.2, 2.3, 2.5) -/

theorem test_step_sync1Hit :
    view (step (st .awaitingSync1 [] [] [.offer 0x05#8])) = some ⟨.awaitingSync2, [(0, 0x05#8)], [], [], false, 0#2⟩ := by decide

/-- "`0x64` alone is noise". -/
theorem test_step_sync1Skip :
    view (step (st .awaitingSync1 [] [] [.offer 0x64#8])) = some ⟨.awaitingSync1, [], [], [], false, 0#2⟩ := by decide

theorem test_step_sync2Hit :
    view (step (st .awaitingSync2 [0x05#8] [] [.offer 0x64#8])) =
      some ⟨.accumulatingHeader 2, [(0, 0x05#8), (1, 0x64#8)], [], [], false, 0#2⟩ := by decide

/-- "the second `05` is discarded in AwaitingSync2". -/
theorem test_step_sync2Miss :
    view (step (st .awaitingSync2 [0x05#8] [] [.offer 0x05#8])) = some ⟨.awaitingSync1, [(0, 0x05#8)], [], [], false, 0#2⟩ := by
  decide

/-- The last accumulating header byte; the header's own 0x05 is data. -/
theorem test_step_hdrAcc :
    view (step (st (.accumulatingHeader 8) (w1.take 8) [] [.offer 0x05#8])) =
      some ⟨.accumulatingHeader 9, buf (w1.take 8 ++ [0x05#8]), [], [], false, 0#2⟩ := by decide

/-- W3. -/
theorem test_step_hdrBadLength :
    view (step (st (.accumulatingHeader 9) (w3.take 9) [] [.offer 0x94#8])) =
      some ⟨.awaitingSync1, buf w3, [], [.error (.badLength 4#8)], true, 1#2⟩ := by decide

/-- A bad length is reported whatever the CRC. -/
theorem test_step_hdrBadLength_badCrc :
    view (step (st (.accumulatingHeader 9) (w3.take 8) [] [.offer 0x00#8])) =
      some ⟨.awaitingSync1, buf (w3.take 8), [], [.error (.badLength 4#8)], true, 1#2⟩ := by decide

/-- W2. -/
theorem test_step_hdrBadCrc :
    view (step (st (.accumulatingHeader 9) (w1.take 8 ++ [0x20#8]) [] [.offer 0x21#8])) =
      some ⟨.awaitingSync1, buf (w1.take 8 ++ [0x20#8, 0x21#8]), [], [.error .badHeaderCrc], true, 2#2⟩ := by decide

/-- W1: destination 1, source 1024, the masked byte 0x40 (90 C2), no payload. -/
theorem test_step_hdrFrameEmpty :
    view (step (st (.accumulatingHeader 9) (w1.take 9) [] [.offer 0x21#8])) =
      some ⟨.awaitingSync1, buf w1, [],
        [.frame { control := { function := .named 0x40#8, isMaster := true, fcb := false, fcv := false },
                  destination := 1#16, source := 1024#16 } []], true, 0#2⟩ := by decide

/-- "length 6 enters the body phase". -/
theorem test_step_hdrToBody :
    view (step (st (.accumulatingHeader 9) (h6.take 9) [] [.offer 0x3C#8])) =
      some ⟨.accumulatingBody 0 3 1, buf h6, [], [], false, 0#2⟩ := by decide

/-- "largest length". -/
theorem test_step_hdrToBody_largest :
    view (step (st (.accumulatingHeader 9) (hmax.take 9) [] [.offer 0x15#8])) =
      some ⟨.accumulatingBody 0 282 250, buf hmax, [], [], false, 0#2⟩ := by decide

theorem test_step_bodyAcc :
    view (step (st (.accumulatingBody 1 2 1) h6 [0xAA#8] [.offer 0xD9#8])) =
      some ⟨.accumulatingBody 2 1 1, buf h6, buf [0xAA#8, 0xD9#8], [], false, 0#2⟩ := by decide

/-- The one-byte frame with its last CRC byte off by one. -/
theorem test_step_bodyBadCrc :
    view (step (st (.accumulatingBody 2 1 1) h6 [0xAA#8, 0xD9#8] [.offer 0xE2#8])) =
      some ⟨.awaitingSync1, buf h6, buf [0xAA#8, 0xD9#8, 0xE2#8], [.error .badBodyCrc], true, 3#2⟩ := by decide

/-- "one 1-byte block". -/
theorem test_step_bodyFrame :
    view (step (st (.accumulatingBody 2 1 1) h6 [0xAA#8, 0xD9#8] [.offer 0xE3#8])) =
      some ⟨.awaitingSync1, buf h6, buf [0xAA#8, 0xD9#8, 0xE3#8],
        [.frame { control := { function := .named 0x44#8, isMaster := false, fcb := false, fcv := false },
                  destination := 2#16, source := 3#16 } [0xAA#8]], true, 0#2⟩ := by decide

/-- The 24 body bytes of W5 less the last. -/
def w5body : List Byte := [0x00#8, 0x01#8, 0x02#8, 0x03#8, 0x04#8, 0x05#8, 0x06#8, 0x07#8, 0x08#8, 0x09#8, 0x0A#8, 0x0B#8, 0x0C#8, 0x0D#8, 0x0E#8, 0x0F#8, 0xEC#8, 0x10#8, 0x10#8, 0x11#8, 0x12#8, 0x13#8, 0xDD#8]

/-- The header bytes of W5. -/
def w5 : List Byte := [0x05#8, 0x64#8, 0x19#8, 0xC4#8, 0x01#8, 0x00#8, 0x00#8, 0x04#8, 0x82#8, 0x02#8]

/-- W5: a full and a partial block; the block CRCs are stripped. -/
theorem test_step_bodyFrame_w5 :
    view (step (st (.accumulatingBody 23 1 20) w5 w5body [.offer 0xBB#8])) =
      some ⟨.awaitingSync1, buf w5, buf (w5body ++ [0xBB#8]),
        [.frame { control := { function := .named 0x44#8, isMaster := true, fcb := false, fcv := false },
                  destination := 1#16, source := 1024#16 } ((List.range 20).map (BitVec.ofNat 8))], true, 0#2⟩ := by decide

/-- W6a: the first of two blocks corrupted, seen only at the end. -/
theorem test_step_bodyBadCrc_w6a :
    view (step (st (.accumulatingBody 23 1 20) w5 (w5body.set 16 0x13#8) [.offer 0xBB#8])) =
      some ⟨.awaitingSync1, buf w5, buf (w5body.set 16 0x13#8 ++ [0xBB#8]), [.error .badBodyCrc], true, 3#2⟩ := by decide

/-! ## The control-byte classes: the function, known or not, and the flags (95 section 2.1, 40_control R76..R85) -/

theorem test_control_classes_1 :
    ([.resetLinkStates true false false,
     .unknown41 false true false,
     .testLinkStates false false true,
     .confirmedUserData true true false,
     .unconfirmedUserData false true true,
     .unknown45 true false true,
     .unknown46 true true true,
     .unknown47 false false false] : List Instr).map (fun i => control (exec i State.reset)) =
    [some ⟨.named 0x40#8, true, false, false⟩,
     some ⟨.unknown 0x41#8, false, true, false⟩,
     some ⟨.named 0x42#8, false, false, true⟩,
     some ⟨.named 0x43#8, true, true, false⟩,
     some ⟨.named 0x44#8, false, true, true⟩,
     some ⟨.unknown 0x45#8, true, false, true⟩,
     some ⟨.unknown 0x46#8, true, true, true⟩,
     some ⟨.unknown 0x47#8, false, false, false⟩] := by decide

theorem test_control_classes_2 :
    ([.unknown48 true true false,
     .requestLinkStatus false true true,
     .unknown4a true false true,
     .unknown4b true true true,
     .unknown4c false false false,
     .unknown4d true false false,
     .unknown4e false true false,
     .unknown4f false false true] : List Instr).map (fun i => control (exec i State.reset)) =
    [some ⟨.unknown 0x48#8, true, true, false⟩,
     some ⟨.named 0x49#8, false, true, true⟩,
     some ⟨.unknown 0x4A#8, true, false, true⟩,
     some ⟨.unknown 0x4B#8, true, true, true⟩,
     some ⟨.unknown 0x4C#8, false, false, false⟩,
     some ⟨.unknown 0x4D#8, true, false, false⟩,
     some ⟨.unknown 0x4E#8, false, true, false⟩,
     some ⟨.unknown 0x4F#8, false, false, true⟩] := by decide

theorem test_control_classes_3 :
    ([.ack true true true,
     .nack false false false,
     .unknown02 true false false,
     .unknown03 false true false,
     .unknown04 false false true,
     .unknown05 true true false,
     .unknown06 false true true,
     .unknown07 true false true] : List Instr).map (fun i => control (exec i State.reset)) =
    [some ⟨.named 0x00#8, true, true, true⟩,
     some ⟨.named 0x01#8, false, false, false⟩,
     some ⟨.unknown 0x02#8, true, false, false⟩,
     some ⟨.unknown 0x03#8, false, true, false⟩,
     some ⟨.unknown 0x04#8, false, false, true⟩,
     some ⟨.unknown 0x05#8, true, true, false⟩,
     some ⟨.unknown 0x06#8, false, true, true⟩,
     some ⟨.unknown 0x07#8, true, false, true⟩] := by decide

theorem test_control_classes_4 :
    ([.unknown08 false true false,
     .unknown09 false false true,
     .unknown0a true true false,
     .linkStatus false true true,
     .unknown0c true false true,
     .unknown0d true true true,
     .unknown0e false false false,
     .notSupported true false false] : List Instr).map (fun i => control (exec i State.reset)) =
    [some ⟨.unknown 0x08#8, false, true, false⟩,
     some ⟨.unknown 0x09#8, false, false, true⟩,
     some ⟨.unknown 0x0A#8, true, true, false⟩,
     some ⟨.named 0x0B#8, false, true, true⟩,
     some ⟨.unknown 0x0C#8, true, false, true⟩,
     some ⟨.unknown 0x0D#8, true, true, true⟩,
     some ⟨.unknown 0x0E#8, false, false, false⟩,
     some ⟨.named 0x0F#8, true, false, false⟩] := by decide

/-! ## The clock edge around them -/

/-- The state W1 leaves with the consumer's next pins `p`. -/
def pendingW1 (p : Pins) : State := { st .awaitingSync1 w1 [] [p] with evtValid := true }

/-- "port level: W1 accepted": the outputs while the event is pending. -/
theorem test_outputs_w1 : outputs (step (pendingW1 .idle)) = some ⟨false, true, 0#2, 5#8, 0x0001#16, 0x0400#16, 0#8⟩ ∧
    control (step (pendingW1 .idle)) = some ⟨.named 0x40#8, true, false, false⟩ := by decide

/-- "port level: W3": kind 1, length 4. -/
theorem test_outputs_w3 :
    outputs (step { st .awaitingSync1 w3 [] [.idle] with evtValid := true, evtKind := 1#2 }) =
      some ⟨false, true, 1#2, 4#8, 0x0001#16, 0x0400#16, 0#8⟩ := by decide

/-- "port level: W5, reading `pl_addr = 16`": `body[18] = 0x10`. -/
theorem test_payload_w5 :
    (match step { st .awaitingSync1 w5 (w5body ++ [0xBB#8]) [.read 16#8] with evtValid := true } with
      | .next t => t.ports.plData
      | .fault _ => 0#8
      | .refused _ => 0#8) = 0x10#8 := by decide

/-- An acknowledged event is released as read at the ports. -/
theorem test_release_w1 :
    (match step (pendingW1 .ack) with
      | .next t => (t.evtValid, t.released)
      | .fault _ => (true, [])
      | .refused _ => (true, [])) =
    (false, [.frame { control := { function := .named 0x40#8, isMaster := true, fcb := false, fcv := false },
                      destination := 1#16, source := 1024#16 } []]) := by decide

/-- A byte offered while an event is pending is not accepted. -/
theorem test_pending_blocks_input :
    (match step (pendingW1 (.offer 0x05#8)) with
      | .next t => (t.stream, t.parser.phase, t.evtValid)
      | .fault _ => ([0#8], .awaitingSync2, false)
      | .refused _ => ([0#8], .awaitingSync2, false)) = ([], .awaitingSync1, true) := by decide

/-- A reset in mid-body loses the partial frame, without an event (70_reset R157). -/
theorem test_reset_edge :
    view (step (st (.accumulatingBody 1 2 1) h6 [0xAA#8] [.reset])) = some ⟨.awaitingSync1, [], [], [], false, 0#2⟩ := by decide

/-- The host's placing of a table word: the next step runs it. -/
theorem test_fetchword :
    decodeTableWord 8 0x05 = some .sync1Hit ∧ decodeTableWord 8 0x64 = some .sync2Hit ∧
    decodeTableWord 8 0x43 = some (.confirmedUserData false false false) ∧
    view (step (State.reset.withFetchWord 8 0x64)) = some ⟨.accumulatingHeader 2, [(1, 0x64#8)], [], [], false, 0#2⟩ ∧
    control (step (State.reset.withFetchWord 8 0x43)) = some ⟨.named 0x43#8, false, false, false⟩ := by decide

/-- The CRC of the source's worked header and the check value (44_crc16 R121). -/
theorem test_crc : crcDnp (w1.take 8) = 0x21E9#16 ∧
    crcDnp [0x31#8, 0x32#8, 0x33#8, 0x34#8, 0x35#8, 0x36#8, 0x37#8, 0x38#8, 0x39#8] = 0xEA82#16 := by decide

/-- Body sizes (95 section 2.5). -/
theorem test_bodySize : [0, 1, 2, 14, 15, 16, 17, 20, 31, 32, 33, 48, 249, 250].map bodySize =
    [0, 3, 4, 16, 17, 18, 21, 24, 35, 36, 39, 54, 281, 282] := by decide

/-- The payload index map (95 section 2.5). -/
theorem test_payloadIndex : [0, 15, 16, 31, 32, 249].map payloadIndex = [0, 15, 18, 33, 36, 279] := by decide

/-- The frame notation writes P2's bytes: a bad header CRC (47 becomes B8) and a bad block CRC (DD becomes 22). -/
theorem test_frames :
    badHcrc (frame Config.standard 0x44#8 2#16 3#16 [0xAA#8]) =
      h6.set 8 0xB8#8 ++ [0xAA#8, 0xD9#8, 0xE3#8] ∧
    badBcrc (frame Config.standard 0xC4#8 1#16 1024#16 ((List.range 20).map (BitVec.ofNat 8))) 1 =
      w5 ++ w5body.set 22 0x22#8 ++ [0xBB#8] := by decide

/-! ## Witnesses: for each statement with hypotheses, states and operands that meet them all, at the ends of their ranges

Where a statement holds for every `Config`, a witness may take a CRC that is always 0, to stay small. -/

/-- The defaults with a constant CRC. -/
def cfg0 : Config := { Config.standard with crc16 := fun _ => 0#16 }

/-- An empty-frame header and the longest one, good under `cfg0`. -/
def good5 : List Byte := [0x05#8, 0x64#8, 0x05#8, 0xC0#8, 0x01#8, 0x00#8, 0x00#8, 0x04#8, 0x00#8, 0x00#8]

def good255 : List Byte := [0x05#8, 0x64#8, 0xFF#8, 0x44#8, 0xFF#8, 0xFF#8, 0x01#8, 0x00#8, 0x00#8, 0x00#8]

theorem witness_DecodeOfEncode :
    WellFormed (.sync1Skip 0x04#8) = true ∧ Reader.sync1.selects (.sync1Skip 0x04#8) = true ∧
    (Reader.headerEnd 4#8 false).selects (.hdrBadLength 0x94#8) = true ∧
    (Reader.headerEnd 5#8 true).selects (.hdrFrameEmpty 0x21#8) = true ∧
    (Reader.headerEnd 6#8 true).selects (.hdrToBody 0x3C#8) = true ∧
    Reader.control.selects (.unknown4f true true true) = true := by decide

/-- The counter ranges of R17 and R18 at their ends. -/
theorem witness_phaseWf :
    (buf w1).wf 10 = true ∧ (Phase.accumulatingHeader 2).wf ∧ (Phase.accumulatingHeader 9).wf ∧
    (Phase.accumulatingBody 0 3 1).wf ∧ (Phase.accumulatingBody 0 282 250).wf ∧ (Phase.accumulatingBody 281 1 250).wf := by
  refine ⟨by decide, ?_, ?_, ?_, ?_, ?_⟩ <;> simp [Phase.wf, bodySize]

theorem witness_StepRunsTheAcceptedByte :
    let s := st .awaitingSync1 [] [] [.offer 0x05#8]
    s.nextPins.rst = false ∧ s.evtValid = false ∧ s.evtWait = 0 ∧ s.nextPins.inValid = true ∧
    decode (s.parser.reader Config.standard s.nextPins.inData) s.nextPins.inData = .sync1Hit := by decide

theorem witness_StepRunsThePendingControlByte :
    (pendingW1 .idle).nextPins.rst = false ∧ (pendingW1 .idle).evtValid = true ∧
    decode .control ((pendingW1 .idle).parser.hdr.read 3) = .resetLinkStates true false false := by decide

theorem witness_PausesChangeNoState :
    ∀ p ∈ (st (.accumulatingBody 1 2 1) h6 [0xAA#8] [.idle, .ack, .read 3#8]).pins, p.inValid = false ∧ p.rst = false := by decide

theorem witness_ResetEdge : (st (.accumulatingBody 1 2 1) h6 [0xAA#8] [.reset]).nextPins.rst = true := by decide

theorem witness_Sync1 : State.reset.parser.phase = .awaitingSync1 ∧ State.reset.parser.hdr.wf 10 = true ∧
    0x04#8 ≠ 0x05#8 := by decide

theorem witness_Sync2 : (st .awaitingSync2 [0x05#8] [] []).parser.phase = .awaitingSync2 ∧
    (st .awaitingSync2 [0x05#8] [] []).parser.hdr.wf 10 = true ∧ 0x05#8 ≠ 0x64#8 := by decide

/-- Both ends of R94's range. -/
theorem witness_HeaderAccumulation :
    (st (.accumulatingHeader 2) (w1.take 2) [] []).parser.phase = .accumulatingHeader 2 ∧ 2 ≤ 2 ∧ 2 ≤ 8 ∧
    (st (.accumulatingHeader 2) (w1.take 2) [] []).parser.hdr.wf 10 = true ∧
    (st (.accumulatingHeader 8) (w1.take 8) [] []).parser.phase = .accumulatingHeader 8 ∧ 8 ≤ 8 ∧
    (st (.accumulatingHeader 8) (w1.take 8) [] []).parser.hdr.wf 10 = true := by decide

/-- Length 4. -/
theorem witness_HeaderBadLength :
    let s := st (.accumulatingHeader 9) (w3.take 9) [] []
    s.parser.phase = .accumulatingHeader 9 ∧ s.parser.hdr.wf 10 = true ∧ (s.parser.hdr.read 2).toNat < 5 := by decide

/-- Length 5. -/
theorem witness_HeaderBadCrc :
    let s := st (.accumulatingHeader 9) (w1.take 9) [] []
    s.parser.phase = .accumulatingHeader 9 ∧ s.parser.hdr.wf 10 = true ∧ 5 ≤ (s.parser.hdr.read 2).toNat ∧
    crcDnp (s.parser.hdr.slice 0 8) ≠ le16 (s.parser.hdr.read 8) 0x20#8 := by decide

theorem witness_HeaderEmptyFrame :
    let s := st (.accumulatingHeader 9) (w1.take 9) [] []
    s.parser.phase = .accumulatingHeader 9 ∧ s.parser.hdr.wf 10 = true ∧ (s.parser.hdr.read 2).toNat = 5 ∧
    crcDnp (s.parser.hdr.slice 0 8) = le16 (s.parser.hdr.read 8) 0x21#8 := by decide

/-- Length 6. -/
theorem witness_HeaderToBody :
    let s := st (.accumulatingHeader 9) (h6.take 9) [] []
    s.parser.phase = .accumulatingHeader 9 ∧ s.parser.hdr.wf 10 = true ∧ 5 < (s.parser.hdr.read 2).toNat ∧
    crcDnp (s.parser.hdr.slice 0 8) = le16 (s.parser.hdr.read 8) 0x3C#8 := by decide

/-- Length 255. -/
theorem witness_HeaderToBody_largest :
    let s := st (.accumulatingHeader 9) (hmax.take 9) [] []
    s.parser.phase = .accumulatingHeader 9 ∧ s.parser.hdr.wf 10 = true ∧ 5 < (s.parser.hdr.read 2).toNat ∧
    crcDnp (s.parser.hdr.slice 0 8) = le16 (s.parser.hdr.read 8) 0x15#8 := by decide

/-- The first byte of the largest body, and the last but one. -/
theorem witness_BodyAccumulation :
    (st (.accumulatingBody 0 282 250) hmax [] []).parser.phase = .accumulatingBody 0 282 250 ∧
    (st (.accumulatingBody 280 2 250) hmax [] []).parser.phase = .accumulatingBody 280 2 250 ∧ 2 ≤ 282 ∧ 280 < 282 ∧
    (st (.accumulatingBody 280 2 250) hmax [] []).parser.body.wf 282 = true := by decide

/-- The smallest body, its last CRC byte off by one. -/
theorem witness_BodyBadCrc :
    let s := st (.accumulatingBody 2 1 1) h6 [0xAA#8, 0xD9#8] []
    s.parser.phase = .accumulatingBody 2 1 1 ∧ 2 < 282 ∧ bodySize 1 ≤ 282 ∧ s.parser.body.wf 282 = true ∧
    ∃ k < blockCount 1, crcDnp (blockData (s.parser.body.write 2 0xE2#8) 1 k) ≠ blockCrc (s.parser.body.write 2 0xE2#8) 1 k := by
  decide

/-- The top of the buffer: byte 281 of a body of 250 user bytes, every one zero. -/
theorem witness_BodyBadCrc_largest :
    let s := st (.accumulatingBody 281 1 250) hmax [] []
    s.parser.phase = .accumulatingBody 281 1 250 ∧ 281 < 282 ∧ bodySize 250 ≤ 282 ∧ s.parser.body.wf 282 = true ∧
    ∃ k < blockCount 250, crcDnp (blockData (s.parser.body.write 281 0#8) 250 k) ≠ blockCrc (s.parser.body.write 281 0#8) 250 k :=
  ⟨by decide, by decide, by decide, by decide, 0, by decide, by decide⟩

theorem witness_BodyFrame :
    let s := st (.accumulatingBody 2 1 1) h6 [0xAA#8, 0xD9#8] []
    s.parser.phase = .accumulatingBody 2 1 1 ∧ 2 < 282 ∧ bodySize 1 ≤ 282 ∧ s.parser.body.wf 282 = true ∧
    ∀ k < blockCount 1, crcDnp (blockData (s.parser.body.write 2 0xE3#8) 1 k) = blockCrc (s.parser.body.write 2 0xE3#8) 1 k := by
  decide

/-- Two blocks, W5. -/
theorem witness_BodyFrame_w5 :
    let s := st (.accumulatingBody 23 1 20) w5 w5body []
    s.parser.phase = .accumulatingBody 23 1 20 ∧ 23 < 282 ∧ bodySize 20 ≤ 282 ∧ s.parser.body.wf 282 = true ∧
    ∀ k < blockCount 20, crcDnp (blockData (s.parser.body.write 23 0xBB#8) 20 k) = blockCrc (s.parser.body.write 23 0xBB#8) 20 k := by
  decide

theorem witness_PresentsClass : 0xF3#8 &&& 0x4F#8 = 0x43#8 ∧ 0x7F#8 &&& 0x4F#8 = 0x4F#8 ∧ 0x80#8 &&& 0x4F#8 = 0x00#8 := by decide

theorem witness_ControlFieldsLoseNoBit : decodeControl cfg0 0xC0#8 = decodeControl cfg0 0xC0#8 := rfl

/-- A completing byte that delivers a frame. -/
theorem witness_FunctionValueLabelsOnly :
    Parser.step cfg0 ⟨.accumulatingHeader 9, buf good5, []⟩ 0x00#8 =
      .next (⟨.awaitingSync1, buf good5, []⟩, [.frame (headerOf cfg0 (buf good5)) []]) := by rfl

/-- A step that emits nothing, and one that emits an error. -/
theorem witness_steps :
    Parser.step cfg0 Parser.reset 0x05#8 = .next (⟨.awaitingSync2, buf [0x05#8], []⟩, []) ∧
    Parser.step cfg0 ⟨.accumulatingHeader 9, buf w3, []⟩ 0x94#8 =
      .next (⟨.awaitingSync1, buf w3, []⟩, [.error (.badLength 4#8)]) := ⟨rfl, rfl⟩

/-- The invariant of the abstract state in each phase, the counters at their ends. -/
theorem witness_ParserInv :
    Parser.reset.Inv cfg0 ∧ Parser.Inv cfg0 ⟨.awaitingSync2, buf [0x05#8], []⟩ ∧
    Parser.Inv cfg0 ⟨.accumulatingHeader 2, buf [0x05#8, 0x64#8], []⟩ ∧
    Parser.Inv cfg0 ⟨.accumulatingHeader 9, buf (good5.take 9), []⟩ ∧
    Parser.Inv cfg0 ⟨.accumulatingBody 0 282 250, buf good255, []⟩ ∧
    Parser.Inv cfg0 ⟨.accumulatingBody 281 1 250, buf good255, []⟩ := by
  refine ⟨⟨?_, ?_, ?_, ?_, ?_⟩, ⟨?_, ?_, ?_, ?_, ?_⟩, ⟨?_, ?_, ?_, ?_, ?_⟩, ⟨?_, ?_, ?_, ?_, ?_⟩, ⟨?_, ?_, ?_, ?_, ?_⟩,
      ⟨?_, ?_, ?_, ?_, ?_⟩⟩ <;>
    first
    | decide
    | trivial

theorem witness_StepWritesOneByte : Parser.reset.Inv cfg0 ∧
    Parser.step cfg0 Parser.reset 0x05#8 = .next (⟨.awaitingSync2, buf [0x05#8], []⟩, []) :=
  ⟨witness_ParserInv.1, rfl⟩

/-- The invariant of the machine: idle with a byte offered, an event pending, and an event due. -/
theorem witness_StateInv :
    (st .awaitingSync1 [] [] [.offer 0x05#8]).Inv Config.standard ∧ (pendingW1 .ack).Inv Config.standard ∧
    ({ st .awaitingSync1 w3 [] [.idle] with evtWait := 2, evtKind := 1#2 } : State).Inv Config.standard := by
  refine ⟨⟨⟨by decide, by decide, trivial, trivial, trivial⟩, by decide, by decide, by decide, by decide⟩,
    ⟨⟨by decide, by decide, trivial, trivial, trivial⟩, by decide, by decide, by decide, by decide⟩,
    ⟨⟨by decide, by decide, trivial, trivial, trivial⟩, by decide, by decide, by decide, by decide⟩⟩

theorem witness_MachineStepKeepsTheRefinement :
    let s := st .awaitingSync1 [] [] [.offer 0x05#8]
    s.Inv Config.standard ∧ s.Refines Config.standard ∧ ∃ t, stepWith Config.standard s = .next t :=
  ⟨witness_StateInv.1, ⟨rfl, rfl⟩, _, rfl⟩

/-- Two header buffers that agree on the three bytes received and differ beyond them. -/
theorem witness_StaleBytes :
    Parser.Inv cfg0 ⟨.accumulatingHeader 3, buf [0x05#8, 0x64#8, 0x05#8, 0xAA#8], []⟩ ∧
    Parser.Inv cfg0 ⟨.accumulatingHeader 3, buf [0x05#8, 0x64#8, 0x05#8, 0xBB#8, 0xCC#8], [(7, 0x01#8)]⟩ ∧
    Parser.AgreeOnFrame ⟨.accumulatingHeader 3, buf [0x05#8, 0x64#8, 0x05#8, 0xAA#8], []⟩
      ⟨.accumulatingHeader 3, buf [0x05#8, 0x64#8, 0x05#8, 0xBB#8, 0xCC#8], [(7, 0x01#8)]⟩ := by
  refine ⟨⟨by decide, by decide, ?_, ?_, trivial⟩, ⟨by decide, by decide, ?_, ?_, trivial⟩, rfl, ?_⟩ <;>
    simp only [Parser.synced, Phase.wf] <;> decide

theorem witness_BodySize : 1 ≤ 1 ∧ 1 ≤ 250 ∧ 250 ≤ 250 := by decide

/-- The first and the last block, the last offset, of the largest body. -/
theorem witness_BlocksTile : 0 < blockCount 250 ∧ 15 < blockCount 250 ∧ 0 + 1 < blockCount 250 ∧ 15 + 1 = blockCount 250 ∧
    281 < bodySize 250 := by decide

theorem witness_PayloadIndex : 15 < 16 ∧ 249 < 250 := by decide

/-- "for the block `00 01 ... 0F` with CRC `EC 10`": the residue (95 section 2.6). -/
theorem witness_CrcResidue :
    le16 0xEC#8 0x10#8 = crcDnp ((List.range 16).map (BitVec.ofNat 8)) ∧
    crcRegister ((List.range 16).map (BitVec.ofNat 8) ++ [0xEC#8, 0x10#8]) = 0x66C5#16 := by decide

theorem witness_CrcRanges : 0 < blockCount 1 ∧ 15 < blockCount 250 := by decide

theorem witness_SingleBit : 7 < (w1.take 8).length ∧ 7 < 8 ∧ 0 < (w1.take 8).length := by decide

/-- The frame statements: no data, the most data, and a second block to corrupt. -/
theorem witness_Frames :
    Parser.reset.Inv cfg0 ∧ Parser.reset.phase = .awaitingSync1 ∧ ([] : List Byte).length ≤ 250 ∧
    (List.replicate 250 0xFF#8).length ≤ 250 ∧ (15 : Nat) < blockCount (List.replicate 250 0xFF#8).length ∧
    0 < blockCount [0xAA#8].length :=
  ⟨witness_ParserInv.1, rfl, by decide, by decide, by decide, by decide⟩

theorem witness_MalformedHeader : Parser.reset.Inv cfg0 ∧ Parser.reset.phase = .awaitingSync1 ∧ (4#8).toNat < 5 ∧ 5 ≤ (5#8).toNat :=
  ⟨witness_ParserInv.1, rfl, by decide, by decide⟩

theorem witness_PendingHeld : (pendingW1 .idle).nextPins.rst = false ∧ (pendingW1 .idle).evtValid = true ∧
    (pendingW1 .idle).nextPins.evtAck = false := by decide

/-- W5 pending, the pins `pins` to come. -/
def pendingW5 (pins : List Pins) : State := { st .awaitingSync1 w5 (w5body ++ [0xBB#8]) pins with evtValid := true }

/-- The last payload address of W5, in a cycle that holds the event and in one that releases it. -/
theorem witness_PayloadPort :
    (pendingW5 [.read 19#8]).nextPins.rst = false ∧ (pendingW5 [.read 19#8]).nextPins.evtAck = false ∧
    (pendingW5 [.read 19#8]).evtValid = true ∧ (pendingW5 [.read 19#8]).evtKind = 0#2 ∧
    (pendingW5 [.read 19#8]).nextPins.plAddr.toNat < ((pendingW5 [.read 19#8]).parser.hdr.read 2 - 5#8).toNat ∧
    (pendingW5 [{ Pins.read 19#8 with evtAck := true }]).nextPins.rst = false ∧
    (pendingW5 [{ Pins.read 19#8 with evtAck := true }]).nextPins.evtAck = true ∧
    (pendingW5 [{ Pins.read 19#8 with evtAck := true }]).nextPins.plAddr.toNat <
      ((pendingW5 [{ Pins.read 19#8 with evtAck := true }]).parser.hdr.read 2 - 5#8).toNat := by decide

/-- A read latency of two: the last address, another, and the cycle of the answer, which releases the event. -/
theorem witness_PayloadLatency :
    let s := pendingW5 [.read 19#8, .read 0#8, .ack]
    s.pins = (Pins.read 19#8 :: [Pins.read 0#8, Pins.ack]) ++ [] ∧
    [Pins.read 0#8, Pins.ack].length = { Config.standard with plReadLatency := 2 }.plReadLatency ∧
    (∀ x ∈ [Pins.read 19#8, Pins.read 0#8, Pins.ack], x.rst = false) ∧
    (∀ x ∈ [Pins.read 19#8, Pins.read 0#8, Pins.ack].dropLast, x.evtAck = false) ∧ s.evtValid = true ∧ s.evtKind = 0#2 ∧
    (Pins.read 19#8).plAddr.toNat < (s.parser.hdr.read 2 - 5#8).toNat := by decide

/-- The addresses in flight: cycles that hold the event. -/
theorem witness_PayloadPipe :
    (pendingW5 [.read 19#8, .read 0#8]).pins = (Pins.read 19#8 :: [Pins.read 0#8]) ++ [] ∧
    (∀ x ∈ [Pins.read 19#8, Pins.read 0#8], x.rst = false ∧ x.evtAck = false) ∧
    (pendingW5 [.read 19#8, .read 0#8]).evtValid = true := by decide

/-- W1 as a run leaves it, the consumer acknowledging and the host offering the next byte. -/
def acked : State :=
  { pendingW1 .ack with
    pins := [.ack, .offer 0x05#8], stream := w1,
    events := [.frame { control := { function := .named 0x40#8, isMaster := true, fcb := false, fcv := false },
                        destination := 1#16, source := 1024#16 } []] }

/-- An outcome is a given next state, decidably. -/
def isNext (o : OpResult) (r : Parser × List Event) : Bool :=
  match o with
  | .next x => x == r
  | .fault _ => false
  | .refused _ => false

theorem eq_of_isNext {o : OpResult} {r : Parser × List Event} (h : isNext o r = true) : o = .next r := by
  cases o with
  | next x => rw [eq_of_beq h]
  | fault _ => cases h
  | refused _ => cases h

theorem witness_Acknowledge :
    acked.Inv Config.standard ∧ acked.Refines Config.standard ∧ acked.evtValid = true ∧ acked.nextPins.rst = false ∧
    acked.nextPins.evtAck = true ∧ acked.pins.tail = Pins.offer 0x05#8 :: [] ∧ (Pins.offer 0x05#8).rst = false ∧
    (Pins.offer 0x05#8).inValid = true :=
  ⟨⟨⟨by decide, by decide, trivial, trivial, trivial⟩, by decide, by decide, by decide, by decide⟩,
    ⟨eq_of_isNext (by decide), by decide⟩, by decide, by decide, by decide, by decide, by decide, by decide⟩

theorem witness_AcknowledgeWithoutEvent : State.reset.evtValid = false := rfl

/-- An idle cycle with no event pending or due. -/
theorem witness_IdleCycle : State.reset.nextPins.rst = false ∧ State.reset.evtValid = false ∧ State.reset.evtWait = 0 ∧
    State.reset.nextPins.inValid = false := by decide

theorem witness_EventKindCodes : Config.standard.evtLatency = 1 := rfl

/-- A completing byte offered at latency 3, and at latency 1. -/
theorem witness_EvtLatency_completing :
    let s := st (.accumulatingHeader 9) (w3.take 9) [] [.offer 0x94#8, .idle]
    1 ≤ { Config.standard with evtLatency := 3 }.evtLatency ∧ 1 ≤ Config.standard.evtLatency ∧ (∀ p ∈ s.pins, p.rst = false) ∧
    s.evtValid = false ∧ s.evtWait = 0 ∧ s.nextPins.inValid = true ∧
    s.parser.step { Config.standard with evtLatency := 3 } s.nextPins.inData =
      .next (⟨.awaitingSync1, buf w3, []⟩, [.error (.badLength 4#8)]) ∧
    s.parser.step Config.standard s.nextPins.inData = .next (⟨.awaitingSync1, buf w3, []⟩, [.error (.badLength 4#8)]) ∧
    1 < 3 ∧ 3 ≤ { Config.standard with evtLatency := 3 }.evtLatency :=
  ⟨by decide, by decide, by decide, by decide, by decide, by decide, rfl, rfl, by decide, by decide⟩

/-- An event due in three cycles, and in one. -/
theorem witness_EvtLatency :
    ({ State.reset with evtWait := 2 + 1, pins := [.idle, .offer 0x05#8] } : State).evtValid = false ∧
    ({ State.reset with evtWait := 2 + 1, pins := [.idle, .offer 0x05#8] } : State).evtWait = 2 + 1 ∧
    ({ State.reset with evtWait := 0 + 1 } : State).evtWait = 0 + 1 ∧
    (∀ p ∈ [Pins.idle, Pins.offer 0x05#8], p.rst = false) := by decide

theorem witness_EqualBuffers : (buf w1).wf 10 = true ∧ 9 < 10 ∧ 0 < 10 ∧ (buf w5body).wf 282 = true ∧ 281 < 282 := by decide

/-- Phases outside each operation's operand, the bounds of both buffers included. -/
theorem witness_Stops :
    (st .awaitingSync2 [] [] []).parser.phase ≠ .awaitingSync1 ∧ State.reset.parser.phase ≠ .awaitingSync2 ∧
    (∀ n, State.reset.parser.phase ≠ .accumulatingHeader n) ∧ (∀ r rem udl, State.reset.parser.phase ≠ .accumulatingBody r rem udl) ∧
    (st (.accumulatingHeader 9) [] [] []).parser.phase = .accumulatingHeader 9 ∧ 9 ≤ 9 ∧ 8 < 9 ∧
    (st (.accumulatingBody 282 2 1) [] [] []).parser.phase = .accumulatingBody 282 2 1 ∧ 282 ≤ 282 ∧ 1 ≤ 1 ∧
    282 < bodySize 251 := by
  refine ⟨by decide, by decide, fun n => ?_, fun r rem udl => ?_, by decide, by decide, by decide, by decide, by decide, by decide,
    by decide⟩ <;> exact Phase.noConfusion

end Sys2Proof.Tests
end

/-! # The event register between an accepted byte and `evt_valid`

Facts about one clock edge and about waiting for a due event, at any parameters; with them O56 is settled. -/

namespace Sys2Proof.Machine

/-! ## The edges of `stepWith` -/

/-- The operation the decoder selects for a byte does what the normative step does with it (R60, R126). -/
theorem execWith_fetch (cfg : Config) (b : Byte) (s : State) :
    execWith cfg (s.parser.fetch cfg b) s = s.commit cfg (s.parser.step cfg b) := by
  cases h : s.parser.phase with
  | awaitingSync1 =>
    rw [Parser.fetch_sync1 h]
    by_cases hb : b = SYNC1 <;> simp [hb, execWith, Parser.step, h]
  | awaitingSync2 =>
    rw [Parser.fetch_sync2 h]
    by_cases hb : b = SYNC2 <;> simp [hb, execWith, Parser.step, h]
  | accumulatingHeader n =>
    by_cases hn : n + 1 < 10
    · rw [Parser.fetch_header h hn]
      simp [execWith, Parser.step, h, hn]
    · rw [Parser.fetch_headerEnd h hn]
      simp only [Parser.step, h, hn, if_false, Parser.completeHeader]
      split_ifs <;> rfl
  | accumulatingBody r rem udl =>
    by_cases hrem : rem > 1
    · rw [Parser.fetch_body h hrem]
      simp [execWith, Parser.step, h, hrem]
    · rw [Parser.fetch_bodyEnd h hrem]
      simp only [Parser.step, h, hrem, if_false, Parser.completeBody]
      split_ifs <;> rfl

/-- No reset is scheduled in any coming cycle. -/
def State.NoReset (s : State) : Prop := ∀ p ∈ s.pins, p.rst = false

theorem State.NoReset.nextPins_rst {s : State} (h : s.NoReset) : s.nextPins.rst = false := by
  unfold State.nextPins
  split
  next => rfl
  next p ps hp => exact h p (by simp [hp])

theorem State.NoReset.of_pins_tail {s t : State} (h : s.NoReset) (ht : t.pins = s.pins.tail) : t.NoReset :=
  fun p hp => h p (List.mem_of_mem_tail (ht ▸ hp))

/-- An edge that accepts a byte commits the normative step of that byte (R136, R126). -/
theorem stepWith_accept (cfg : Config) {s : State} (hr : s.nextPins.rst = false) (hv : s.evtValid = false)
    (hw : s.evtWait = 0) (hi : s.nextPins.inValid = true) :
    stepWith cfg s = ((s.tick.quiet true).accept s.nextPins.inData).commit cfg
      (s.parser.step cfg s.nextPins.inData) := by
  rw [stepWith, State.cycle_accept hr hv hw hi]
  exact execWith_fetch cfg s.nextPins.inData ((s.tick.quiet true).accept s.nextPins.inData)

/-! ## Waiting for a due event -/

/-- The event in flight at `s` is still so at `t`, with `n` cycles to wait: it is pending once `n` is 0, and all but the wait,
the pins and the outputs is as at `s`. -/
structure State.DueIn (n : Nat) (s t : State) : Prop where
  evtWait  : t.evtWait = n
  evtValid : t.evtValid = decide (n = 0)
  evtKind  : t.evtKind = s.evtKind
  parser   : t.parser = s.parser
  stream   : t.stream = s.stream
  events   : t.events = s.events
  released : t.released = s.released
  noReset  : t.NoReset

theorem State.DueIn.refl {n : Nat} {s : State} (hw : s.evtWait = n) (hv : s.evtValid = decide (n = 0))
    (hr : s.NoReset) : s.DueIn n s :=
  ⟨hw, hv, rfl, rfl, rfl, rfl, rfl, hr⟩

/-- A waiting edge takes one cycle off the wait, whatever is offered, and shows `in_ready = 0` and `evt_valid = 0`
(R136). -/
theorem State.DueIn.waiting_edge (cfg : Config) {n : Nat} {s t : State} (h : s.DueIn (n + 1) t) :
    ∃ u, stepWith cfg t = .next u ∧ s.DueIn n u ∧ u.ports.inReady = false ∧ u.ports.evtValid = false := by
  have hv : t.evtValid = false := by simp [h.evtValid]
  have hw : t.evtWait ≠ 0 := by simp [h.evtWait]
  refine ⟨(t.tick.quiet false).latencyEdge, State.cycle_waiting h.noReset.nextPins_rst hv hw, ?_, rfl, rfl⟩
  exact
    { evtWait := by simp [h.evtWait]
      evtValid := by simp [h.evtWait]
      evtKind := h.evtKind
      parser := h.parser
      stream := h.stream
      events := h.events
      released := h.released
      noReset := h.noReset.of_pins_tail rfl }

/-- The count-down: `j` of the `n` waiting cycles leave `n - j`, and each of them shows `in_ready = 0` and
`evt_valid = 0`. -/
theorem State.DueIn.countdown (cfg : Config) {n : Nat} {s : State} (h : s.DueIn n s) {j : Nat} (hj : j ≤ n) :
    ∃ t, runWith cfg j s = .next t ∧ s.DueIn (n - j) t ∧
      (1 ≤ j → t.ports.inReady = false ∧ t.ports.evtValid = false) := by
  induction j with
  | zero => exact ⟨s, rfl, h, by omega⟩
  | succ j ih =>
    obtain ⟨t, hrun, ht, -⟩ := ih (by omega)
    rw [show n - j = n - (j + 1) + 1 by omega] at ht
    obtain ⟨u, hstep, hu, hports⟩ := ht.waiting_edge cfg
    refine ⟨u, ?_, hu, fun _ => hports⟩
    rw [runWith_add, hrun, andThen_next, runWith_succ, hstep, andThen_next, runWith_zero]

/-- An edge that accepts a completing byte emits its event, to be pending in `EVT_LATENCY - 1` more cycles (R136). -/
theorem stepWith_completing (cfg : Config) {s : State} {q : Parser} {e : Event} (hlat : 1 ≤ cfg.evtLatency)
    (hr : s.NoReset) (hv : s.evtValid = false) (hw : s.evtWait = 0) (hi : s.nextPins.inValid = true)
    (hq : s.parser.step cfg s.nextPins.inData = .next (q, [e])) :
    ∃ t, stepWith cfg s = .next t ∧ t.DueIn (cfg.evtLatency - 1) t ∧ t.evtKind = e.kind ∧ t.parser = q ∧
      t.stream = s.stream ++ [s.nextPins.inData] ∧ t.events = s.events ++ [e] ∧ t.released = s.released := by
  rw [stepWith_accept cfg hr.nextPins_rst hv hw hi, hq, State.commit_event]
  refine ⟨_, rfl, State.DueIn.refl rfl ?_ (hr.of_pins_tail rfl), rfl, rfl, rfl, rfl, rfl⟩
  rw [State.raise_evtValid]
  exact decide_eq_decide.mpr (by omega)

end Sys2Proof.Machine

section
open Sys2Proof Sys2Proof.Machine

/-- Settles O56: the accepting edge leaves the event due in `EVT_LATENCY - 1` cycles, and from there, as from any state with
cycles to wait, `State.DueIn.countdown` counts down. -/
theorem evtValidRisesAfterTheLatency : Obligations.EvtValidRisesAfterTheLatency := by
  unfold Obligations.EvtValidRisesAfterTheLatency
  constructor
  · intro cfg s q e hlat hr hv hw hi hq j hj1 hjl
    obtain ⟨t, hstep, hdue, hkind, hparser, hstream, hevents, hreleased⟩ :=
      stepWith_completing cfg hlat hr hv hw hi hq
    obtain ⟨u, hrun, hu, hports⟩ := hdue.countdown cfg (j := j - 1) (by omega)
    have hrunS : runWith cfg j s = .next u := by
      rw [show j = j - 1 + 1 by omega, runWith_succ, hstep, andThen_next, hrun]
    refine ⟨u, hrunS, ?_, fun _ => hu.evtKind.trans hkind, hu.parser.trans hparser, hu.stream.trans hstream,
      hu.events.trans hevents, hu.released.trans hreleased, fun h => hports (by omega)⟩
    rw [hu.evtValid, decide_eq_true_iff]
    omega
  · intro cfg s k hv hw hr j hj
    have hdue : s.DueIn (k + 1) s := .refl hw (by simp [hv]) hr
    obtain ⟨t, hrun, ht, hports⟩ := hdue.countdown cfg hj
    refine ⟨t, hrun, ?_, ht.evtWait, fun _ => ht.evtKind, ht.parser, ht.stream, ht.events, ht.released, hports⟩
    rw [ht.evtValid, decide_eq_true_iff]
    omega

end

/-! # The invariant of the abstract state

What the invariant says in each phase, and that no byte breaks it; with them O31 is settled. -/

namespace Sys2Proof.Machine

/-! ## The geometry of the body, for the sizes a header can announce (R105, R106) -/

theorem bodySize_eq (udl : Nat) : bodySize udl = udl + 2 * blockCount udl := by
  unfold bodySize blockCount
  split_ifs <;> omega

theorem three_le_bodySize {udl : Nat} (h : 1 ≤ udl) : 3 ≤ bodySize udl := by
  rw [bodySize_eq, blockCount]
  omega

theorem bodySize_le_maxBody {udl : Nat} (h : udl ≤ 250) : bodySize udl ≤ 282 := by
  rw [bodySize_eq, blockCount]
  omega

/-- A block and its CRC lie inside the body region (R106). -/
theorem blockStart_add_blockLen_lt {udl k : Nat} (hk : k < blockCount udl) :
    blockStart k + blockLen udl k + 1 < bodySize udl := by
  rw [bodySize_eq]
  unfold blockCount at hk ⊢
  unfold blockStart blockLen
  omega

/-- A payload byte lies inside the body region (R36). -/
theorem payloadIndex_lt_bodySize {udl i : Nat} (hi : i < udl) : payloadIndex i < bodySize udl := by
  rw [bodySize_eq]
  unfold payloadIndex blockCount
  omega

/-! ## The invariant, phase by phase -/

section
variable {cfg : Config} {hdr body : Buffer}

theorem Parser.inv_awaitingSync1 :
    Parser.Inv cfg ⟨.awaitingSync1, hdr, body⟩ ↔ hdr.wf 10 = true ∧ body.wf 282 = true :=
  ⟨fun ⟨hh, hb, _, _, _⟩ => ⟨hh, hb⟩, fun ⟨hh, hb⟩ => ⟨hh, hb, trivial, trivial, trivial⟩⟩

theorem Parser.inv_awaitingSync2 :
    Parser.Inv cfg ⟨.awaitingSync2, hdr, body⟩ ↔ hdr.wf 10 = true ∧ body.wf 282 = true ∧ hdr.read 0 = SYNC1 :=
  ⟨fun ⟨hh, hb, _, hs, _⟩ => ⟨hh, hb, hs⟩, fun ⟨hh, hb, hs⟩ => ⟨hh, hb, trivial, hs, trivial⟩⟩

theorem Parser.inv_accumulatingHeader {n : Nat} :
    Parser.Inv cfg ⟨.accumulatingHeader n, hdr, body⟩ ↔
      hdr.wf 10 = true ∧ body.wf 282 = true ∧ (2 ≤ n ∧ n ≤ 9) ∧ hdr.read 0 = SYNC1 ∧ hdr.read 1 = SYNC2 :=
  ⟨fun ⟨hh, hb, hn, hs, _⟩ => ⟨hh, hb, hn, hs⟩, fun ⟨hh, hb, hn, hs⟩ => ⟨hh, hb, hn, hs, trivial⟩⟩

theorem Parser.inv_accumulatingBody {r rem udl : Nat} :
    Parser.Inv cfg ⟨.accumulatingBody r rem udl, hdr, body⟩ ↔
      hdr.wf 10 = true ∧ body.wf 282 = true ∧ (1 ≤ udl ∧ udl ≤ 250 ∧ 1 ≤ rem ∧ r + rem = bodySize udl) ∧
      (hdr.read 0 = SYNC1 ∧ hdr.read 1 = SYNC2) ∧
      (lengthByte hdr).toNat = udl + 5 ∧ cfg.crc16 (headerSpan hdr) = headerCrc hdr :=
  ⟨fun ⟨hh, hb, hc, hs, hg⟩ => ⟨hh, hb, hc, hs, hg⟩, fun ⟨hh, hb, hc, hs, hg⟩ => ⟨hh, hb, hc, hs, hg⟩⟩

end

theorem Parser.inv_reset (cfg : Config) : Parser.reset.Inv cfg :=
  Parser.inv_awaitingSync1.mpr ⟨Buffer.wf_nil 10, Buffer.wf_nil 282⟩

/-! ## What an accepted byte leaves -/

/-- What a step from the invariant may leave: the invariant, and either no event or one event, after which the hunt resumes and
whose kind agrees with the length byte in the header buffer (R127, R128, R142). -/
inductive Parser.Leaves (cfg : Config) : Parser → List Event → Prop where
  | silent {q : Parser} (inv : q.Inv cfg) : Parser.Leaves cfg q []
  | event {q : Parser} {e : Event} (inv : q.Inv cfg) (hunting : q.phase = .awaitingSync1)
      (kindLen : e.kind = 1#2 ↔ (lengthByte q.hdr).toNat < 5) : Parser.Leaves cfg q [e]

theorem Parser.Leaves.inv {cfg : Config} {q : Parser} {evs : List Event} : Parser.Leaves cfg q evs → q.Inv cfg
  | .silent h => h
  | .event h _ _ => h

theorem Parser.Leaves.length_le_one {cfg : Config} {q : Parser} {evs : List Event} :
    Parser.Leaves cfg q evs → evs.length ≤ 1
  | .silent _ => Nat.zero_le 1
  | .event _ _ _ => Nat.le_refl 1

/-- The byte `b` has a step from `p`, and `Parser.Leaves` holds of what it leaves. -/
def Parser.Accepts (cfg : Config) (p : Parser) (b : Byte) : Prop :=
  ∃ q evs, p.step cfg b = .next (q, evs) ∧ Parser.Leaves cfg q evs

section
variable {cfg : Config} {hdr body : Buffer} (b : Byte)

theorem Parser.accepts_awaitingSync1 (h : Parser.Inv cfg ⟨.awaitingSync1, hdr, body⟩) :
    Parser.Accepts cfg ⟨.awaitingSync1, hdr, body⟩ b := by
  obtain ⟨hh, hb⟩ := Parser.inv_awaitingSync1.mp h
  by_cases hs : b = SYNC1
  · subst hs
    exact ⟨_, _, Parser.step_sync1Hit cfg rfl,
      .silent (Parser.inv_awaitingSync2.mpr ⟨Buffer.wf_write hh (by omega), hb, by simp [Buffer.read_write hh]⟩)⟩
  · exact ⟨_, _, Parser.step_sync1Skip cfg rfl hs, .silent h⟩

theorem Parser.accepts_awaitingSync2 (h : Parser.Inv cfg ⟨.awaitingSync2, hdr, body⟩) :
    Parser.Accepts cfg ⟨.awaitingSync2, hdr, body⟩ b := by
  obtain ⟨hh, hb, h0⟩ := Parser.inv_awaitingSync2.mp h
  by_cases hs : b = SYNC2
  · subst hs
    exact ⟨_, _, Parser.step_sync2Hit cfg rfl,
      .silent (Parser.inv_accumulatingHeader.mpr
        ⟨Buffer.wf_write hh (by omega), hb, by omega, by simp [Buffer.read_write hh, h0]⟩)⟩
  · exact ⟨_, _, Parser.step_sync2Miss cfg rfl hs, .silent (Parser.inv_awaitingSync1.mpr ⟨hh, hb⟩)⟩

/-- A header byte behind the two sync bytes leaves them in place (R28). -/
theorem Buffer.read_sync_write {n : Nat} (hh : hdr.wf 10 = true) (hn : 2 ≤ n)
    (hs : hdr.read 0 = SYNC1 ∧ hdr.read 1 = SYNC2) :
    (hdr.write n b).read 0 = SYNC1 ∧ (hdr.write n b).read 1 = SYNC2 := by
  rwa [Buffer.read_write hh, Buffer.read_write hh, if_neg (by omega), if_neg (by omega)]

theorem Parser.accepts_hdrAcc {n : Nat} (hn : n + 1 < 10)
    (h : Parser.Inv cfg ⟨.accumulatingHeader n, hdr, body⟩) :
    Parser.Accepts cfg ⟨.accumulatingHeader n, hdr, body⟩ b := by
  obtain ⟨hh, hb, hc, hs⟩ := Parser.inv_accumulatingHeader.mp h
  exact ⟨_, _, Parser.step_hdrAcc cfg b rfl hn, .silent (Parser.inv_accumulatingHeader.mpr
    ⟨Buffer.wf_write hh (by omega), hb, by omega, Buffer.read_sync_write b hh hc.1 hs⟩)⟩

/-- The four ends of a header: three report, each with the kind its length byte calls for, and one enters the body under a header
that has passed both checks (R29, R96). -/
theorem Parser.accepts_hdrEnd {n : Nat} (hn : ¬n + 1 < 10)
    (h : Parser.Inv cfg ⟨.accumulatingHeader n, hdr, body⟩) :
    Parser.Accepts cfg ⟨.accumulatingHeader n, hdr, body⟩ b := by
  obtain ⟨hh, hb, hc, hs⟩ := Parser.inv_accumulatingHeader.mp h
  have hw : (hdr.write 9 b).wf 10 = true := Buffer.wf_write hh (by omega)
  have hunt : Parser.Inv cfg ⟨.awaitingSync1, hdr.write 9 b, body⟩ := Parser.inv_awaitingSync1.mpr ⟨hw, hb⟩
  unfold Parser.Accepts
  rw [Parser.step_hdrEnd cfg b rfl hn]
  dsimp only
  split_ifs with hlen hcrc hfive
  · exact ⟨_, _, rfl, .event hunt rfl (iff_of_true rfl hlen)⟩
  · exact ⟨_, _, rfl, .event hunt rfl (iff_of_false (by decide) hlen)⟩
  · exact ⟨_, _, rfl, .event hunt rfl (iff_of_false (by simp [Event.kind]) hlen)⟩
  · have hlt := (lengthByte (hdr.write 9 b)).isLt
    have hudl : userDataLength (hdr.write 9 b) = (lengthByte (hdr.write 9 b)).toNat - 5 := rfl
    have hsize : 3 ≤ bodySize (userDataLength (hdr.write 9 b)) := three_le_bodySize (by omega)
    exact ⟨_, _, rfl, .silent (Parser.inv_accumulatingBody.mpr
      ⟨hw, hb, by omega, Buffer.read_sync_write b hh (by omega) hs, by omega, not_not.mp hcrc⟩)⟩

theorem Parser.accepts_bodyAcc {r rem udl : Nat} (hrem : rem > 1)
    (h : Parser.Inv cfg ⟨.accumulatingBody r rem udl, hdr, body⟩) :
    Parser.Accepts cfg ⟨.accumulatingBody r rem udl, hdr, body⟩ b := by
  obtain ⟨hh, hb, hc, hs, hg⟩ := Parser.inv_accumulatingBody.mp h
  have hsize := bodySize_le_maxBody hc.2.1
  exact ⟨_, _, Parser.step_bodyAcc cfg b rfl hrem (by omega), .silent (Parser.inv_accumulatingBody.mpr
    ⟨hh, Buffer.wf_write hb (by omega), by omega, hs, hg⟩)⟩

/-- The two ends of a body: neither kind is that of a bad length, and the header in place has a good one (R29, R109). -/
theorem Parser.accepts_bodyEnd {r rem udl : Nat} (hrem : ¬rem > 1)
    (h : Parser.Inv cfg ⟨.accumulatingBody r rem udl, hdr, body⟩) :
    Parser.Accepts cfg ⟨.accumulatingBody r rem udl, hdr, body⟩ b := by
  obtain ⟨hh, hb, hc, _, hlen, _⟩ := Parser.inv_accumulatingBody.mp h
  have hsize := bodySize_le_maxBody hc.2.1
  have hr : r < 282 := by omega
  have hgood : ¬(lengthByte hdr).toNat < 5 := by omega
  refine ⟨_, _, Parser.step_bodyEnd cfg b rfl hrem hr hsize,
    .event (Parser.inv_awaitingSync1.mpr ⟨hh, Buffer.wf_write hb hr⟩) rfl (iff_of_false ?_ hgood)⟩
  split_ifs <;> simp [Event.kind, ParseError.kind]

end

/-- From the invariant every byte has a step, which keeps it (R30). -/
theorem Parser.Inv.accepts {cfg : Config} {p : Parser} (h : p.Inv cfg) (b : Byte) : p.Accepts cfg b := by
  obtain ⟨phase, hdr, body⟩ := p
  cases phase with
  | awaitingSync1 => exact Parser.accepts_awaitingSync1 b h
  | awaitingSync2 => exact Parser.accepts_awaitingSync2 b h
  | accumulatingHeader n =>
    by_cases hn : n + 1 < 10
    · exact Parser.accepts_hdrAcc b hn h
    · exact Parser.accepts_hdrEnd b hn h
  | accumulatingBody r rem udl =>
    by_cases hrem : rem > 1
    · exact Parser.accepts_bodyAcc b hrem h
    · exact Parser.accepts_bodyEnd b hrem h

theorem Parser.Inv.of_step {cfg : Config} {p q : Parser} {b : Byte} {evs : List Event} (h : p.Inv cfg)
    (hs : p.step cfg b = .next (q, evs)) : q.Inv cfg := by
  obtain ⟨q', evs', hs', hl⟩ := h.accepts b
  cases hs.symm.trans hs'
  exact hl.inv

end Sys2Proof.Machine

section
open Sys2Proof Sys2Proof.Machine

/-- Settles O31: `Parser.Inv.accepts` gives the step phase by phase; what it leaves has at most one event and meets the
invariant. -/
theorem abstractStepIsTotalOnReachableStates : Obligations.AbstractStepIsTotalOnReachableStates := by
  unfold Obligations.AbstractStepIsTotalOnReachableStates
  intro cfg p b h
  obtain ⟨q, evs, hstep, hl⟩ := h.accepts b
  exact ⟨q, evs, hstep, hl.length_le_one, hl.inv⟩

end

/-! # The invariant of the machine

Each case of the clock edge keeps it; with this O32 and O33 are settled. -/

namespace Sys2Proof.Machine

/-! ## The control decoder -/

/-- The masked value of the class with the PRM bit `prm` and the FUNC field `func` (R52, R57). -/
def classValue (prm : Bool) (func : Fin 16) : Byte := (if prm then 0x40#8 else 0#8) ||| BitVec.ofNat 8 func

theorem classValue_fields (c : Byte) : classValue (c.getLsbD 6) (c.setWidth 4).toFin = functionValue c := by
  revert c
  decide

theorem execWith_controlClass (cfg : Config) (prm : Bool) (func : Fin 16) (dir fcb fcv : Bool) (s : State) :
    execWith cfg (controlClass prm func dir fcb fcv) s = s.presentControl cfg (classValue prm func) dir fcb fcv := by
  cases prm <;> fin_cases func <;> rfl

/-- The class of a control byte presents the byte's decoded fields, for any parameters (R67, R73). -/
theorem execWith_decode_control (cfg : Config) (c : Byte) (s : State) :
    execWith cfg (decode .control c) s = .next { s with ports := showControl (decodeControl cfg c) s.ports } := by
  rw [decode, decodeControlByte, execWith_controlClass, classValue_fields]
  rfl

/-! ## The edges -/

section
variable {cfg : Config} {s t : State}

@[simp] theorem State.busy_iff : s.busy = true ↔ s.evtValid = true ∨ s.evtWait ≠ 0 := by
  simp [State.busy]

/-- With no event pending or due the invariant is the abstract state's and an empty payload pipeline. -/
theorem State.Inv.of_idle (hp : t.parser.Inv cfg) (hv : t.evtValid = false) (hw : t.evtWait = 0)
    (hpipe : t.plPipe = []) : t.Inv cfg :=
  { parser := hp
    oneEvent := fun _ => hw
    hunting := by simp [hv, hw]
    kindLen := by simp [hv, hw]
    pipe := fun _ => hpipe }

/-- The invariant of a state that may have an event pending or due. -/
theorem State.Inv.of_busy (hp : t.parser.Inv cfg) (hone : t.evtValid = true → t.evtWait = 0)
    (hunt : t.parser.phase = .awaitingSync1) (hkind : t.evtKind = 1#2 ↔ (lengthByte t.parser.hdr).toNat < 5)
    (hpipe : t.evtValid = false → t.plPipe = []) : t.Inv cfg :=
  ⟨hp, hone, fun _ => hunt, fun _ => hkind, hpipe⟩

theorem State.inv_reset (cfg : Config) : State.reset.Inv cfg :=
  .of_idle (Parser.inv_reset cfg) rfl rfl rfl

/-- An edge that waits for a due event keeps the invariant. -/
theorem State.Inv.waiting_edge (h : s.Inv cfg) (hv : s.evtValid = false) (hw : s.evtWait ≠ 0) :
    (s.tick.quiet false).latencyEdge.Inv cfg := by
  have hbusy : s.busy = true := State.busy_iff.mpr (.inr hw)
  refine .of_busy h.parser (fun hrise => ?_) (h.hunting hbusy) (h.kindLen hbusy) fun _ => h.pipe hv
  have hlast : s.evtWait = 1 := of_decide_eq_true hrise
  simp [hlast]

/-- An edge with an event pending keeps the invariant, whether the consumer releases the event or not. -/
theorem State.Inv.consumer_edge (h : s.Inv cfg) (hv : s.evtValid = true) (pin : Pins) :
    (s.consumerEdge cfg pin).Inv cfg := by
  have hw : s.evtWait = 0 := h.oneEvent hv
  have hbusy : s.busy = true := State.busy_iff.mpr (.inl hv)
  cases ha : pin.evtAck with
  | true =>
    rw [State.consumerEdge_ack _ _ _ ha]
    exact .of_idle h.parser rfl hw rfl
  | false =>
    rw [State.consumerEdge_hold _ _ _ ha]
    exact .of_busy h.parser (fun _ => hw) (h.hunting hbusy) (h.kindLen hbusy) (by simp [hv])

/-- Committing what a byte may leave keeps the invariant: a step without an event leaves the machine idle, and one with an event
has it pending or due (R136). -/
theorem Parser.Leaves.commit {q : Parser} {evs : List Event} (h : Parser.Leaves cfg q evs) (hv : s.evtValid = false)
    (hw : s.evtWait = 0) (hpipe : s.plPipe = []) : ∃ t, s.commit cfg (.next (q, evs)) = .next t ∧ t.Inv cfg := by
  cases h with
  | silent hq => exact ⟨_, State.commit_silent cfg s q, .of_idle hq hv hw hpipe⟩
  | event hq hunt hkind =>
    exact ⟨_, State.commit_event cfg s q _,
      .of_busy hq (fun hone => Nat.sub_eq_zero_of_le (of_decide_eq_true hone)) hunt hkind fun _ => hpipe⟩

/-- Every edge has a next state and keeps the invariant, by the cases of R136. -/
theorem State.Inv.stepWith_keeps (h : s.Inv cfg) : ∃ t, stepWith cfg s = .next t ∧ t.Inv cfg := by
  cases hr : s.nextPins.rst with
  | true => exact ⟨_, State.cycle_reset hr, .of_idle (Parser.inv_reset cfg) rfl rfl rfl⟩
  | false =>
  cases hv : s.evtValid with
  | true =>
    rw [stepWith, State.cycle_pending hr hv, Parser.fetchControl, execWith_decode_control, andThen_next]
    have hd : State.Inv cfg (State.driveEvent cfg s.nextPins.plAddr
        { s.tick with ports := showControl (decodeControl cfg (ctrlByte s.parser.hdr)) s.tick.ports }) :=
      ⟨h.parser, h.oneEvent, h.hunting, h.kindLen, h.pipe⟩
    exact ⟨_, rfl, hd.consumer_edge hv s.nextPins⟩
  | false =>
  by_cases hw : s.evtWait = 0
  case neg => exact ⟨_, State.cycle_waiting hr hv hw, h.waiting_edge hv hw⟩
  cases hi : s.nextPins.inValid with
  | true =>
    obtain ⟨q, evs, hstep, hl⟩ := h.parser.accepts s.nextPins.inData
    rw [stepWith_accept cfg hr hv hw hi, hstep]
    exact hl.commit hv hw (h.pipe hv)
  | false => exact ⟨_, State.cycle_hold hr hv hw hi, .of_idle h.parser hv hw (h.pipe hv)⟩

end

end Sys2Proof.Machine

section
open Sys2Proof Sys2Proof.Machine

/-- Settles O32: after reset nothing is pending or due, and decoding no bytes gives the reset state and no event. -/
theorem resetMeetsTheInvariants : Obligations.ResetMeetsTheInvariants := by
  unfold Obligations.ResetMeetsTheInvariants
  exact fun cfg => ⟨State.inv_reset cfg, rfl, rfl⟩

/-- Settles O33: `State.Inv.stepWith_keeps` at any parameters, and at the defaults, where `stepWith` is `step`. -/
theorem machineStepKeepsTheInvariant : Obligations.MachineStepKeepsTheInvariant := by
  unfold Obligations.MachineStepKeepsTheInvariant
  refine ⟨fun cfg s h => h.stepWith_keeps, fun s h => ?_⟩
  rw [← stepWith_standard]
  exact h.stepWith_keeps

end

/-! # Stale bytes

A step reads only bytes written in the current frame; with this O36 is settled. -/

namespace Sys2Proof.Machine

/-- The buffers agree on the first `n` bytes. -/
def Buffer.AgreeBelow (n : Nat) (m m' : Buffer) : Prop := ∀ i < n, m.read i = m'.read i

/-- Writing the next byte in both extends the agreement by it. -/
theorem Buffer.AgreeBelow.write {size n : Nat} {m m' : Buffer} (h : Buffer.AgreeBelow n m m')
    (hm : m.wf size = true) (hm' : m'.wf size = true) (b : Byte) :
    Buffer.AgreeBelow (n + 1) (m.write n b) (m'.write n b) := by
  intro i hi
  rw [Buffer.read_write hm, Buffer.read_write hm']
  split_ifs with hin
  · rfl
  · exact h i (by omega)

theorem Buffer.AgreeBelow.slice {n a len : Nat} {m m' : Buffer} (h : Buffer.AgreeBelow n m m') (hn : a + len ≤ n) :
    m.slice a len = m'.slice a len :=
  Buffer.slice_congr fun i _ => h (a + i) (by omega)

/-! ## What the checks and the events read -/

section
variable {m m' : Buffer} (h : Buffer.AgreeBelow 10 m m')
include h

theorem lengthByte_congr : lengthByte m = lengthByte m' := h 2 (by omega)

theorem headerSpan_congr : headerSpan m = headerSpan m' := h.slice (by decide)

theorem headerCrc_congr : headerCrc m = headerCrc m' := by
  rw [headerCrc, headerCrc, h 8 (by omega), h 9 (by omega)]

theorem headerOf_congr (cfg : Config) : headerOf cfg m = headerOf cfg m' := by
  simp only [headerOf, ctrlByte, destination, source, h 3 (by omega), h 4 (by omega), h 5 (by omega), h 6 (by omega),
    h 7 (by omega)]

theorem userDataLength_congr : userDataLength m = userDataLength m' := by
  rw [userDataLength, userDataLength, lengthByte_congr h]

end

section
variable {udl : Nat} {m m' : Buffer} (h : Buffer.AgreeBelow (bodySize udl) m m')
include h

theorem blockOk_congr (cfg : Config) {k : Nat} (hk : k < blockCount udl) : blockOk cfg m udl k = blockOk cfg m' udl k := by
  have hlt := blockStart_add_blockLen_lt hk
  have hdata : blockData m udl k = blockData m' udl k := h.slice (by omega)
  have hcrc : blockCrc m udl k = blockCrc m' udl k := by
    rw [blockCrc, blockCrc, h _ (by omega), h _ hlt]
  rw [blockOk, blockOk, hdata, hcrc]

theorem blocksOk_congr (cfg : Config) : blocksOk cfg m udl = blocksOk cfg m' udl := by
  rw [Bool.eq_iff_iff]
  simp only [blocksOk, List.all_eq_true, List.mem_range]
  exact forall₂_congr fun k hk => by rw [blockOk_congr h cfg hk]

theorem payload_congr : payload m udl = payload m' udl :=
  List.map_congr_left fun _ hi => h _ (payloadIndex_lt_bodySize (List.mem_range.mp hi))

end

/-! ## A step from two states that differ in stale bytes -/

/-- The byte `b` has the same events from `p` and from `q`, and leaves them in agreement. -/
def Parser.StepAgrees (cfg : Config) (b : Byte) (p q : Parser) : Prop :=
  ∃ p' q' evs, p.step cfg b = .next (p', evs) ∧ q.step cfg b = .next (q', evs) ∧ p'.AgreeOnFrame q'

section
variable {cfg : Config} {hdr hdr' body body' : Buffer} (b : Byte)

theorem Parser.stepAgrees_awaitingSync1 (hp : Parser.Inv cfg ⟨.awaitingSync1, hdr, body⟩)
    (hq : Parser.Inv cfg ⟨.awaitingSync1, hdr', body'⟩) :
    Parser.StepAgrees cfg b ⟨.awaitingSync1, hdr, body⟩ ⟨.awaitingSync1, hdr', body'⟩ := by
  by_cases hs : b = SYNC1
  · subst hs
    refine ⟨_, _, _, Parser.step_sync1Hit cfg rfl, Parser.step_sync1Hit cfg rfl, rfl, ?_⟩
    simp [Buffer.read_write hp.hdrWf, Buffer.read_write hq.hdrWf]
  · exact ⟨_, _, _, Parser.step_sync1Skip cfg rfl hs, Parser.step_sync1Skip cfg rfl hs, rfl, trivial⟩

theorem Parser.stepAgrees_awaitingSync2 (hp : Parser.Inv cfg ⟨.awaitingSync2, hdr, body⟩)
    (hq : Parser.Inv cfg ⟨.awaitingSync2, hdr', body'⟩) (h : hdr.read 0 = hdr'.read 0) :
    Parser.StepAgrees cfg b ⟨.awaitingSync2, hdr, body⟩ ⟨.awaitingSync2, hdr', body'⟩ := by
  by_cases hs : b = SYNC2
  · subst hs
    have h1 : Buffer.AgreeBelow 1 hdr hdr' := fun _ hi => Nat.lt_one_iff.mp hi ▸ h
    exact ⟨_, _, _, Parser.step_sync2Hit cfg rfl, Parser.step_sync2Hit cfg rfl, rfl,
      h1.write hp.hdrWf hq.hdrWf SYNC2⟩
  · exact ⟨_, _, _, Parser.step_sync2Miss cfg rfl hs, Parser.step_sync2Miss cfg rfl hs, rfl, trivial⟩

/-- The completing header byte stands in `hdr[9]` of both when they are checked, so the same end of R96 applies to both. -/
theorem Parser.stepAgrees_accumulatingHeader {n : Nat} (hp : Parser.Inv cfg ⟨.accumulatingHeader n, hdr, body⟩)
    (hq : Parser.Inv cfg ⟨.accumulatingHeader n, hdr', body'⟩) (h : Buffer.AgreeBelow n hdr hdr') :
    Parser.StepAgrees cfg b ⟨.accumulatingHeader n, hdr, body⟩ ⟨.accumulatingHeader n, hdr', body'⟩ := by
  have hw := h.write hp.hdrWf hq.hdrWf b
  by_cases hn : n + 1 < 10
  · exact ⟨_, _, _, Parser.step_hdrAcc cfg b rfl hn, Parser.step_hdrAcc cfg b rfl hn, rfl, hw⟩
  · obtain ⟨_, _, ⟨_, hn9⟩, _⟩ := Parser.inv_accumulatingHeader.mp hp
    obtain rfl : n = 9 := by omega
    unfold Parser.StepAgrees
    rw [Parser.step_hdrEnd cfg b rfl hn, Parser.step_hdrEnd cfg b rfl hn]
    simp only [lengthByte_congr hw, headerSpan_congr hw, headerCrc_congr hw, headerOf_congr hw, userDataLength_congr hw]
    split_ifs
    · exact ⟨_, _, _, rfl, rfl, rfl, trivial⟩
    · exact ⟨_, _, _, rfl, rfl, rfl, trivial⟩
    · exact ⟨_, _, _, rfl, rfl, rfl, trivial⟩
    · exact ⟨_, _, _, rfl, rfl, rfl, hw, fun i hi => absurd hi (Nat.not_lt_zero i)⟩

/-- The completing body byte stands in `body[r]` of both, the last of the body region, so their blocks and payloads agree. -/
theorem Parser.stepAgrees_accumulatingBody {r rem udl : Nat}
    (hp : Parser.Inv cfg ⟨.accumulatingBody r rem udl, hdr, body⟩)
    (hq : Parser.Inv cfg ⟨.accumulatingBody r rem udl, hdr', body'⟩) (hh : Buffer.AgreeBelow 10 hdr hdr')
    (hb : Buffer.AgreeBelow r body body') :
    Parser.StepAgrees cfg b ⟨.accumulatingBody r rem udl, hdr, body⟩ ⟨.accumulatingBody r rem udl, hdr', body'⟩ := by
  have hw := hb.write hp.bodyWf hq.bodyWf b
  obtain ⟨_, _, ⟨_, hudl, hrem1, hsum⟩, _⟩ := Parser.inv_accumulatingBody.mp hp
  have hsize := bodySize_le_maxBody hudl
  have hr : r < 282 := by omega
  by_cases hrem : rem > 1
  · exact ⟨_, _, _, Parser.step_bodyAcc cfg b rfl hrem hr, Parser.step_bodyAcc cfg b rfl hrem hr, rfl, hh, hw⟩
  · rw [show r + 1 = bodySize udl by omega] at hw
    unfold Parser.StepAgrees
    rw [Parser.step_bodyEnd cfg b rfl hrem hr hsize, Parser.step_bodyEnd cfg b rfl hrem hr hsize]
    simp only [blocksOk_congr hw, payload_congr hw, headerOf_congr hh]
    exact ⟨_, _, _, rfl, rfl, rfl, trivial⟩

end

theorem Parser.AgreeOnFrame.step {cfg : Config} {p q : Parser} (h : p.AgreeOnFrame q) (hp : p.Inv cfg)
    (hq : q.Inv cfg) (b : Byte) : Parser.StepAgrees cfg b p q := by
  obtain ⟨phase, hdr, body⟩ := p
  obtain ⟨phase', hdr', body'⟩ := q
  obtain ⟨hphase, hread⟩ := h
  cases hphase
  cases phase with
  | awaitingSync1 => exact Parser.stepAgrees_awaitingSync1 b hp hq
  | awaitingSync2 => exact Parser.stepAgrees_awaitingSync2 b hp hq hread
  | accumulatingHeader n => exact Parser.stepAgrees_accumulatingHeader b hp hq hread
  | accumulatingBody r rem udl => exact Parser.stepAgrees_accumulatingBody b hp hq hread.1 hread.2

theorem Parser.decode_cons {cfg : Config} {p q q' : Parser} {b : Byte} {bs : List Byte} {evs evs' : List Event}
    (hs : p.step cfg b = .next (q, evs)) (hd : Parser.decode cfg q bs = .next (q', evs')) :
    Parser.decode cfg p (b :: bs) = .next (q', evs ++ evs') := by
  rw [Parser.decode, hs, andThen_next, hd, andThen_next]

end Sys2Proof.Machine

section
open Sys2Proof Sys2Proof.Machine

/-- Settles O36, by induction on the bytes: each step gives the same events from both states and leaves both in the invariant and in
agreement. -/
theorem staleBytesInfluenceNoEvent : Obligations.StaleBytesInfluenceNoEvent := by
  unfold Obligations.StaleBytesInfluenceNoEvent
  intro cfg p q bs hp hq h
  induction bs generalizing p q with
  | nil => exact ⟨p, q, [], rfl, rfl, h⟩
  | cons b bs ih =>
    obtain ⟨p1, q1, evs, hps, hqs, h1⟩ := h.step hp hq b
    obtain ⟨p2, q2, evs', hpd, hqd, h2⟩ := ih p1 q1 (hp.of_step hps) (hq.of_step hqs) h1
    exact ⟨p2, q2, evs ++ evs', Parser.decode_cons hps hpd, Parser.decode_cons hqs hqd, h2⟩

end

/-! # The register view, the buffers and the reset values: O41, O58, O9 -/

section
open Sys2Proof Sys2Proof.Machine

/-- Settles O41: every counter of a stored phase is below two to the width of its register. -/
theorem registersHoldEveryStoredPhase : Obligations.RegistersHoldEveryStoredPhase := by
  unfold Obligations.RegistersHoldEveryStoredPhase
  intro ph old hwf
  cases ph with
  | awaitingSync1 => exact ⟨rfl, trivial⟩
  | awaitingSync2 => exact ⟨rfl, trivial⟩
  | accumulatingHeader n =>
    obtain ⟨_, hn⟩ := hwf
    have hreg : n % 16 = n := Nat.mod_eq_of_lt (by omega)
    simp [Phase.toRegs, PhaseRegs.toPhase, hreg]
  | accumulatingBody r rem udl =>
    obtain ⟨_, hudl, _, hsum⟩ := hwf
    have hsize := bodySize_le_maxBody hudl
    have hr : r % 512 = r := Nat.mod_eq_of_lt (by omega)
    have hrem : rem % 512 = rem := Nat.mod_eq_of_lt (by omega)
    have hu : udl % 256 = udl := Nat.mod_eq_of_lt (by omega)
    simp [Phase.toRegs, PhaseRegs.toPhase, hr, hrem, hu]

/-- Settles O58: the write law of the buffers, and that a canonical buffer is determined by its bytes. -/
theorem equalBuffersAreEqualData : Obligations.EqualBuffersAreEqualData := by
  unfold Obligations.EqualBuffersAreEqualData
  exact ⟨fun size a v m hm ha => ⟨Buffer.wf_write hm ha, Buffer.read_write hm⟩,
    fun size m m' hm hm' hread => Buffer.eq_of_read_from hm hm' hread⟩

/-- Settles O9: the buffers after reset list no byte, and an unlisted byte reads 0x00. -/
theorem resetStateHoldsTheSpecsValues : Obligations.ResetStateHoldsTheSpecsValues := by
  unfold Obligations.ResetStateHoldsTheSpecsValues
  exact ⟨rfl, fun i _ => Buffer.read_nil i, fun i _ => Buffer.read_nil i, rfl⟩

end

/-! # What a step writes

The step equations of R126 read off as writes; with them O30 is settled. -/

namespace Sys2Proof.Machine

theorem Buffer.becomes_write {size a : Nat} {v : Byte} {m : Buffer} (h : m.wf size = true) :
    m.Becomes a v (m.write a v) :=
  Buffer.read_write h

section
variable {cfg : Config} {p q : Parser} {b : Byte} {evs : List Event}

/-- The byte that completes a header is written to `hdr[9]` in all four ends of R96, and the body is left alone. -/
theorem Parser.buffers_of_step_hdrEnd {n : Nat} (h : p.phase = .accumulatingHeader n) (hn : ¬n + 1 < 10)
    (hs : p.step cfg b = .next (q, evs)) : q.hdr = p.hdr.write 9 b ∧ q.body = p.body := by
  rw [Parser.step_hdrEnd cfg b h hn] at hs
  dsimp only at hs
  split_ifs at hs
  all_goals
    cases hs
    exact ⟨rfl, rfl⟩

/-- In a body phase whose index is inside the buffer the byte is written to `body[r]`, whether it completes the body or not, and
the header is left alone (R107, R109). -/
theorem Parser.buffers_of_step_body {r rem udl : Nat} (h : p.phase = .accumulatingBody r rem udl) (hr : r < 282)
    (hu : bodySize udl ≤ 282) (hs : p.step cfg b = .next (q, evs)) :
    q.hdr = p.hdr ∧ q.body = p.body.write r b := by
  by_cases hrem : rem > 1
  · cases (Parser.step_bodyAcc cfg b h hrem hr).symm.trans hs
    exact ⟨rfl, rfl⟩
  · cases (Parser.step_bodyEnd cfg b h hrem hr hu).symm.trans hs
    exact ⟨rfl, rfl⟩

end

end Sys2Proof.Machine

section
open Sys2Proof Sys2Proof.Machine

/-- Settles O30, phase by phase: the invariant puts the written index inside its buffer (at the last header byte it makes `n` the 9
of `hdr[9]`), and a canonical buffer obeys the write law. -/
theorem stepWritesTheOneByteThePhaseNames : Obligations.StepWritesTheOneByteThePhaseNames := by
  unfold Obligations.StepWritesTheOneByteThePhaseNames
  intro cfg p q b evs hinv hs
  have hwf : p.hdr.wf 10 = true := hinv.hdrWf
  have hbwf : p.body.wf 282 = true := hinv.bodyWf
  obtain ⟨phase, hdr, body⟩ := p
  cases phase with
  | awaitingSync1 =>
    by_cases hb : b = 0x05#8
    · subst hb
      cases (Parser.step_sync1Hit cfg rfl).symm.trans hs
      exact ⟨rfl, Buffer.becomes_write hwf⟩
    · cases (Parser.step_sync1Skip cfg rfl hb).symm.trans hs
      simp [hb]
  | awaitingSync2 =>
    by_cases hb : b = 0x64#8
    · subst hb
      cases (Parser.step_sync2Hit cfg rfl).symm.trans hs
      exact ⟨rfl, Buffer.becomes_write hwf⟩
    · cases (Parser.step_sync2Miss cfg rfl hb).symm.trans hs
      simp [hb]
  | accumulatingHeader n =>
    by_cases hn : n + 1 < 10
    · cases (Parser.step_hdrAcc cfg b rfl hn).symm.trans hs
      exact ⟨rfl, Buffer.becomes_write hwf⟩
    · obtain ⟨_, _, ⟨_, hn9⟩, _⟩ := Parser.inv_accumulatingHeader.mp hinv
      obtain rfl : n = 9 := by omega
      obtain ⟨hhdr, hbody⟩ := Parser.buffers_of_step_hdrEnd rfl hn hs
      exact ⟨hbody, hhdr ▸ Buffer.becomes_write hwf⟩
  | accumulatingBody r rem udl =>
    obtain ⟨_, _, ⟨_, hudl, hrem, hsum⟩, _⟩ := Parser.inv_accumulatingBody.mp hinv
    have hsize := bodySize_le_maxBody hudl
    obtain ⟨hhdr, hbody⟩ := Parser.buffers_of_step_body rfl (by omega) hsize hs
    exact ⟨hhdr, hbody ▸ Buffer.becomes_write hbwf⟩

end

/-! # Operations outside their operand

What each input-byte operation answers where the decoder never asks for it (logs 5, 8 and 10); with it O59 is settled. -/

namespace Sys2Proof.Machine

/-! ## The operations on the abstract state -/

section
variable {p : Parser} {b : Byte}

theorem Parser.sync1_refused (h : p.phase ≠ .awaitingSync1) :
    p.sync1Hit b = .refused .notSelected ∧ p.sync1Skip b = .refused .notSelected := by
  obtain ⟨phase, hdr, body⟩ := p
  cases phase with
  | awaitingSync1 => exact absurd rfl h
  | awaitingSync2 | accumulatingHeader _ | accumulatingBody _ _ _ => exact ⟨rfl, rfl⟩

theorem Parser.sync2_refused (h : p.phase ≠ .awaitingSync2) :
    p.sync2Hit b = .refused .notSelected ∧ p.sync2Miss b = .refused .notSelected := by
  obtain ⟨phase, hdr, body⟩ := p
  cases phase with
  | awaitingSync2 => exact absurd rfl h
  | awaitingSync1 | accumulatingHeader _ | accumulatingBody _ _ _ => exact ⟨rfl, rfl⟩

/-- HDR_ACC is refused unless a header is being accumulated and more than its last byte is due. -/
theorem Parser.hdrAcc_refused (h : ∀ n, p.phase = .accumulatingHeader n → 9 ≤ n) :
    p.hdrAcc b = .refused .notSelected := by
  unfold Parser.hdrAcc
  split
  next n hp =>
    have hn : ¬n + 1 < HDR_SIZE := Nat.not_lt.mpr (Nat.succ_le_succ (h n hp))
    rw [if_neg hn]
  next => rfl

/-- The operations that complete a header are refused unless its last byte is due. -/
theorem Parser.hdrEnd_refused {k : Parser → Parser × List Event} (h : ∀ n, p.phase = .accumulatingHeader n → n < 9) :
    p.hdrEnd b k = .refused .notSelected := by
  unfold Parser.hdrEnd
  split
  next n hp =>
    have hn : n + 1 < HDR_SIZE := Nat.succ_lt_succ (h n hp)
    rw [if_pos hn]
  next => rfl

/-- BODY_ACC is refused unless a body is being accumulated and more than its last byte is due. -/
theorem Parser.bodyAcc_refused (h : ∀ r rem udl, p.phase = .accumulatingBody r rem udl → rem ≤ 1) :
    p.bodyAcc b = .refused .notSelected := by
  unfold Parser.bodyAcc
  split
  next r rem udl hp => rw [if_neg (Nat.not_lt.mpr (h r rem udl hp))]
  next => rfl

/-- The operations that complete a body are refused unless its last byte is due. -/
theorem Parser.bodyEnd_refused {k : Nat → Parser → Parser × List Event}
    (h : ∀ r rem udl, p.phase = .accumulatingBody r rem udl → 1 < rem) : p.bodyEnd b k = .refused .notSelected := by
  unfold Parser.bodyEnd
  split
  next r rem udl hp => rw [if_pos (h r rem udl hp)]
  next => rfl

theorem Parser.bodyAcc_outside {r rem udl : Nat} (h : p.phase = .accumulatingBody r rem udl) (hrem : 1 < rem)
    (hr : 282 ≤ r) : p.bodyAcc b = .fault .outsideBuffer := by
  simp [Parser.bodyAcc, h, hrem, Nat.not_lt.mpr hr]

theorem Parser.bodyEnd_outside {k : Nat → Parser → Parser × List Event} {r rem udl : Nat}
    (h : p.phase = .accumulatingBody r rem udl) (hrem : rem ≤ 1) (hout : 282 ≤ r ∨ 282 < bodySize udl) :
    p.bodyEnd b k = .fault .outsideBuffer := by
  have hin : ¬(r < MAX_BODY ∧ bodySize udl ≤ MAX_BODY) := by
    simp only [MAX_BODY]
    omega
  simp only [Parser.bodyEnd, h, if_neg (Nat.not_lt.mpr hrem), if_neg hin]

end

/-! ## The meanings: each commits what its operation answers -/

section
variable {s : State} {b : Byte} {o : OpResult}

theorem exec_sync1_eq_commit (h : ∀ c, s.parser.sync1Hit c = o ∧ s.parser.sync1Skip c = o) :
    exec .sync1Hit s = s.commit Config.standard o ∧
    ∀ b, exec (.sync1Skip b) s = s.commit Config.standard o :=
  ⟨congrArg (s.commit Config.standard) (h SYNC1).1, fun b => congrArg (s.commit Config.standard) (h b).2⟩

theorem exec_sync2_eq_commit (h : ∀ c, s.parser.sync2Hit c = o ∧ s.parser.sync2Miss c = o) :
    exec .sync2Hit s = s.commit Config.standard o ∧
    ∀ b, exec (.sync2Miss b) s = s.commit Config.standard o :=
  ⟨congrArg (s.commit Config.standard) (h SYNC2).1, fun b => congrArg (s.commit Config.standard) (h b).2⟩

theorem exec_hdrAcc_eq_commit (h : s.parser.hdrAcc b = o) : exec (.hdrAcc b) s = s.commit Config.standard o :=
  congrArg (s.commit Config.standard) h

theorem exec_hdrEnds_eq_commit (h : ∀ k, s.parser.hdrEnd b k = o) :
    exec (.hdrBadLength b) s = s.commit Config.standard o ∧ exec (.hdrBadCrc b) s = s.commit Config.standard o ∧
    exec (.hdrFrameEmpty b) s = s.commit Config.standard o ∧ exec (.hdrToBody b) s = s.commit Config.standard o :=
  have hk (k : Parser → Parser × List Event) : s.commit Config.standard (s.parser.hdrEnd b k) = _ :=
    congrArg (s.commit Config.standard) (h k)
  ⟨hk _, hk _, hk _, hk _⟩

theorem exec_bodyAcc_eq_commit (h : s.parser.bodyAcc b = o) : exec (.bodyAcc b) s = s.commit Config.standard o :=
  congrArg (s.commit Config.standard) h

theorem exec_bodyEnds_eq_commit (h : ∀ k, s.parser.bodyEnd b k = o) :
    exec (.bodyBadCrc b) s = s.commit Config.standard o ∧ exec (.bodyFrame b) s = s.commit Config.standard o :=
  have hk (k : Nat → Parser → Parser × List Event) : s.commit Config.standard (s.parser.bodyEnd b k) = _ :=
    congrArg (s.commit Config.standard) (h k)
  ⟨hk _, hk _⟩

end

theorem State.Inv.not_stopped {cfg : Config} {s : State} (h : s.Inv cfg) :
    (∀ f, stepWith cfg s ≠ .fault f) ∧ ∀ r, stepWith cfg s ≠ .refused r := by
  obtain ⟨t, ht, _⟩ := h.stepWith_keeps
  rw [ht]
  exact ⟨nofun, nofun⟩

end Sys2Proof.Machine

section
open Sys2Proof Sys2Proof.Machine

/-- Settles O59: steps under the invariant have a next state (O33), and each meaning commits what its operation answers. -/
theorem meaningsStopOutsideTheirOperandsAndStepsNever :
    Obligations.MeaningsStopOutsideTheirOperandsAndStepsNever := by
  unfold Obligations.MeaningsStopOutsideTheirOperandsAndStepsNever
  refine ⟨fun cfg s h => h.not_stopped, fun s h => stepWith_standard s ▸ h.not_stopped,
    fun s h => (exec_sync1_eq_commit fun _ => Parser.sync1_refused h).1,
    fun s b h => (exec_sync1_eq_commit fun _ => Parser.sync1_refused h).2 b,
    fun s h => (exec_sync2_eq_commit fun _ => Parser.sync2_refused h).1,
    fun s b h => (exec_sync2_eq_commit fun _ => Parser.sync2_refused h).2 b,
    fun s b h => ?_, fun s b h => ?_, fun s b n hp => ?_, fun s b r rem udl hp => ?_⟩
  · exact ⟨exec_hdrAcc_eq_commit (Parser.hdrAcc_refused fun n hp => absurd hp (h n)),
      exec_hdrEnds_eq_commit fun _ => Parser.hdrEnd_refused fun n hp => absurd hp (h n)⟩
  · exact ⟨exec_bodyAcc_eq_commit (Parser.bodyAcc_refused fun r rem udl hp => absurd hp (h r rem udl)),
      exec_bodyEnds_eq_commit fun _ => Parser.bodyEnd_refused fun r rem udl hp => absurd hp (h r rem udl)⟩
  · have hsame (m : Nat) (hm : s.parser.phase = .accumulatingHeader m) : n = m :=
      Phase.accumulatingHeader.inj (hp.symm.trans hm)
    exact ⟨fun hn => exec_hdrAcc_eq_commit (Parser.hdrAcc_refused fun m hm => hsame m hm ▸ hn),
      fun hn => exec_hdrEnds_eq_commit fun _ => Parser.hdrEnd_refused fun m hm => hsame m hm ▸ hn⟩
  · have hsame (r' rem' udl' : Nat) (hm : s.parser.phase = .accumulatingBody r' rem' udl') : rem = rem' :=
      (Phase.accumulatingBody.inj (hp.symm.trans hm)).2.1
    exact ⟨fun hrem => exec_bodyAcc_eq_commit (Parser.bodyAcc_refused fun _ _ _ hm => hsame _ _ _ hm ▸ hrem),
      fun hrem => exec_bodyEnds_eq_commit fun _ => Parser.bodyEnd_refused fun _ _ _ hm => hsame _ _ _ hm ▸ hrem,
      fun hrem hr => exec_bodyAcc_eq_commit (Parser.bodyAcc_outside hp hrem hr),
      fun hrem hout => exec_bodyEnds_eq_commit fun _ => Parser.bodyEnd_outside hp hrem hout⟩

end

/-! # The payload map

Where payload byte `i` stands among the blocks; with it O39 is settled. -/

namespace Sys2Proof.Machine

/-- Payload byte `i` stands in block `i / 16` (R36). -/
theorem payloadIndex_div (i : Nat) : payloadIndex i / 18 = i / 16 := by
  unfold payloadIndex
  omega

/-- Payload byte `i` is byte `i % 16` of its block (R36). -/
theorem payloadIndex_mod (i : Nat) : payloadIndex i % 18 = i % 16 := by
  unfold payloadIndex
  omega

theorem payloadIndex_strictMono : StrictMono payloadIndex := fun i j hij => by
  unfold payloadIndex
  omega

/-- A payload byte is a data byte of its block. -/
theorem mod_lt_blockLen {udl i : Nat} (hi : i < udl) : i % 16 < blockLen udl (i / 16) := by
  unfold blockLen
  omega

end Sys2Proof.Machine

section
open Sys2Proof Sys2Proof.Machine

/-- Settles O39: payload byte `i` is byte `i % 16` of block `i / 16`, which is one of its data bytes. -/
theorem payloadIndexIsIncreasing : Obligations.PayloadIndexIsIncreasing := by
  unfold Obligations.PayloadIndexIsIncreasing
  refine ⟨fun i => rfl, fun i j hij => payloadIndex_strictMono hij, fun udl i hi => ⟨payloadIndex_lt_bodySize hi, ?_⟩⟩
  rw [payloadIndex_div, payloadIndex_mod]
  exact mod_lt_blockLen hi

end

/-! # The encoding

Decoder and encoder are inverse to each other, and the fetched operation is the one row of R60 that applies; with this O1, O2, O3,
O4 and O25 are settled. -/

namespace Sys2Proof

open Machine

/-! ## The control byte -/

/-- A control byte is its masked value with its three flags in place (R52). -/
theorem controlByte_fields (c : Byte) : controlByte (functionValue c) (dirBit c) (fcbBit c) (fcvBit c) = c := by
  revert c
  decide

/-- The fields of a control byte made of a masked value and three flags (R52). -/
theorem fields_controlByte : ∀ (fn : Byte) (dir fcb fcv : Bool), functionValue fn = fn →
    (controlByte fn dir fcb fcv).getLsbD 6 = fn.getLsbD 6 ∧ (controlByte fn dir fcb fcv).setWidth 4 = fn.setWidth 4 ∧
    (controlByte fn dir fcb fcv).getLsbD 7 = dir ∧ (controlByte fn dir fcb fcv).getLsbD 5 = fcb ∧
    (controlByte fn dir fcb fcv).getLsbD 4 = fcv := by
  decide

/-- From such a byte the decoder reads the class of the value, with the flags as operands (R61). -/
theorem decode_control_controlByte (fn : Byte) (dir fcb fcv : Bool) (hfn : functionValue fn = fn) :
    decode .control (controlByte fn dir fcb fcv) = controlClass (fn.getLsbD 6) (fn.setWidth 4).toFin dir fcb fcv := by
  obtain ⟨hprm, hfunc, hdir, hfcb, hfcv⟩ := fields_controlByte fn dir fcb fcv hfn
  rw [decode, decodeControlByte, hprm, hfunc, hdir, hfcb, hfcv]

theorem encode_controlClass (prm : Bool) (func : Fin 16) (dir fcb fcv : Bool) :
    encode (controlClass prm func dir fcb fcv) = controlByte (classValue prm func) dir fcb fcv := by
  cases prm <;> fin_cases func <;> rfl

theorem wellFormed_controlClass (prm : Bool) (func : Fin 16) (dir fcb fcv : Bool) :
    WellFormed (controlClass prm func dir fcb fcv) = true := by
  cases prm <;> fin_cases func <;> rfl

theorem control_selects_controlClass (prm : Bool) (func : Fin 16) (dir fcb fcv : Bool) :
    Reader.control.selects (controlClass prm func dir fcb fcv) = true := by
  cases prm <;> fin_cases func <;> rfl

/-! ## Encoding what was decoded -/

/-- Each end of a header (R96) carries the byte that selected it, under the reader that did. -/
theorem encode_decodeHeaderEnd (len : Byte) (crcOk : Bool) (b : Byte) :
    encode (decodeHeaderEnd len crcOk b) = b ∧ WellFormed (decodeHeaderEnd len crcOk b) = true ∧
    (Reader.headerEnd len crcOk).selects (decodeHeaderEnd len crcOk b) = true := by
  unfold decodeHeaderEnd
  simp only [MIN_LEN]
  split_ifs with hlen hcrc hfive <;> refine ⟨rfl, rfl, ?_⟩
  · exact decide_eq_true hlen
  · simpa [Reader.selects, Nat.not_lt.mp hlen] using hcrc
  · simpa [Reader.selects, hfive] using hcrc
  · have hlt : 5 < len.toNat := by omega
    simpa [Reader.selects, hlt] using hcrc

/-- Encoding loses nothing of a decoded byte, and the decoded instruction is one its reader selects (R60, R61). -/
theorem encode_decode (rd : Reader) (b : Byte) :
    encode (decode rd b) = b ∧ WellFormed (decode rd b) = true ∧ rd.selects (decode rd b) = true := by
  cases rd with
  | sync1 =>
    by_cases hb : b = SYNC1
    · subst hb
      exact ⟨rfl, rfl, rfl⟩
    · rw [decode, if_neg hb]
      exact ⟨rfl, bne_iff_ne.mpr hb, rfl⟩
  | sync2 =>
    by_cases hb : b = SYNC2
    · subst hb
      exact ⟨rfl, rfl, rfl⟩
    · rw [decode, if_neg hb]
      exact ⟨rfl, bne_iff_ne.mpr hb, rfl⟩
  | header | body => exact ⟨rfl, rfl, rfl⟩
  | headerEnd len crcOk => exact encode_decodeHeaderEnd len crcOk b
  | bodyEnd blocksOk => cases blocksOk <;> exact ⟨rfl, rfl, rfl⟩
  | control =>
    refine ⟨?_, wellFormed_controlClass _ _ _ _ _, control_selects_controlClass _ _ _ _ _⟩
    rw [decode, decodeControlByte, encode_controlClass, classValue_fields]
    exact controlByte_fields b

/-! ## Decoding what was encoded -/

theorem decode_control_encode {i : Instr} (h : Reader.control.selects i = true) : decode .control (encode i) = i := by
  cases i with
  | resetLinkStates d f v | unknown41 d f v | testLinkStates d f v | confirmedUserData d f v | unconfirmedUserData d f v
  | unknown45 d f v | unknown46 d f v | unknown47 d f v | unknown48 d f v | requestLinkStatus d f v | unknown4a d f v
  | unknown4b d f v | unknown4c d f v | unknown4d d f v | unknown4e d f v | unknown4f d f v | ack d f v | nack d f v
  | unknown02 d f v | unknown03 d f v | unknown04 d f v | unknown05 d f v | unknown06 d f v | unknown07 d f v
  | unknown08 d f v | unknown09 d f v | unknown0a d f v | linkStatus d f v | unknown0c d f v | unknown0d d f v
  | unknown0e d f v | notSupported d f v => exact decode_control_controlByte _ d f v rfl
  | _ => cases h

/-- Row by row of `Reader.selects`; the readers it does not name select nothing of the row. -/
theorem decode_encode {rd : Reader} {i : Instr} (hwf : WellFormed i = true) (h : rd.selects i = true) :
    decode rd (encode i) = i := by
  match rd, i, hwf, h with
  | .sync1, .sync1Hit, _, _ | .sync2, .sync2Hit, _, _ => rfl
  | .sync1, .sync1Skip b, hwf, _ => exact if_neg (bne_iff_ne.mp hwf)
  | .sync2, .sync2Miss b, hwf, _ => exact if_neg (bne_iff_ne.mp hwf)
  | .header, .hdrAcc b, _, _ | .body, .bodyAcc b, _, _ => rfl
  | .headerEnd len crcOk, .hdrBadLength b, _, h => exact if_pos (of_decide_eq_true h)
  | .headerEnd len crcOk, .hdrBadCrc b, _, h =>
    obtain ⟨hlen, rfl⟩ : 5 ≤ len.toNat ∧ crcOk = false := by simpa [Reader.selects] using h
    simp [decode, encode, decodeHeaderEnd, Nat.not_lt.mpr hlen]
  | .headerEnd len crcOk, .hdrFrameEmpty b, _, h =>
    obtain ⟨hlen, rfl⟩ : len.toNat = 5 ∧ crcOk = true := by simpa [Reader.selects] using h
    simp [decode, encode, decodeHeaderEnd, hlen]
  | .headerEnd len crcOk, .hdrToBody b, _, h =>
    obtain ⟨hlen, rfl⟩ : 5 < len.toNat ∧ crcOk = true := by simpa [Reader.selects] using h
    simp [decode, encode, decodeHeaderEnd, Nat.not_lt.mpr hlen.le, hlen.ne']
  | .bodyEnd false, .bodyBadCrc b, _, _ | .bodyEnd true, .bodyFrame b, _, _ => rfl
  | .control, i, _, h => exact decode_control_encode h

/-- No row of the table is out of reach of the decoder (R60, R61). -/
theorem exists_reader_selects (i : Instr) : ∃ rd : Reader, rd.selects i = true := by
  cases i with
  | sync1Hit | sync1Skip _ => exact ⟨.sync1, rfl⟩
  | sync2Hit | sync2Miss _ => exact ⟨.sync2, rfl⟩
  | hdrAcc _ => exact ⟨.header, rfl⟩
  | hdrBadLength _ => exact ⟨.headerEnd 4#8 true, rfl⟩
  | hdrBadCrc _ => exact ⟨.headerEnd 5#8 false, rfl⟩
  | hdrFrameEmpty _ => exact ⟨.headerEnd 5#8 true, rfl⟩
  | hdrToBody _ => exact ⟨.headerEnd 6#8 true, rfl⟩
  | bodyAcc _ => exact ⟨.body, rfl⟩
  | bodyBadCrc _ => exact ⟨.bodyEnd false, rfl⟩
  | bodyFrame _ => exact ⟨.bodyEnd true, rfl⟩
  | _ => exact ⟨.control, rfl⟩

/-! ## The control fields -/

/-- The decoded record gives the control byte back: the masked value and the flags make it up (R52, R67). -/
theorem controlByte_decodeControl (cfg : Config) (c : Byte) :
    controlByte (decodeControl cfg c).function.value (decodeControl cfg c).isMaster (decodeControl cfg c).fcb
      (decodeControl cfg c).fcv = c := by
  rw [decodeControl, function_value]
  exact controlByte_fields c

end Sys2Proof

namespace Sys2Proof.Machine

/-! ## The selection table of R60 -/

section
variable {cfg : Config} {p : Parser} {b : Byte}

/-- The byte that completes a header, with the fields read before it is written (R60, R96). -/
theorem Parser.fetch_headerNine (hwf : p.hdr.wf 10 = true) (h : p.phase = .accumulatingHeader 9) :
    p.fetch cfg b =
      if (p.hdr.read 2).toNat < 5 then .hdrBadLength b
      else if cfg.crc16 (p.hdr.slice 0 8) ≠ le16 (p.hdr.read 8) b then .hdrBadCrc b
      else if (p.hdr.read 2).toNat = 5 then .hdrFrameEmpty b
      else .hdrToBody b := by
  rw [Parser.fetch_headerEnd h (by decide), lengthByte_write_nine hwf, headerSpan_write_nine hwf,
    headerCrc_write_nine hwf]

/-- Some block fails, as a statement about one block (R109, R114). -/
theorem blocksOk_eq_false_iff {body : Buffer} {udl : Nat} :
    blocksOk cfg body udl = false ↔ ∃ k < blockCount udl, blockOk cfg body udl k = false := by
  simp [blocksOk]

theorem Parser.selected_fetch (hwf : p.hdr.wf 10 = true) (hph : p.phase.wf) : Selected cfg p b (p.fetch cfg b) := by
  cases h : p.phase with
  | awaitingSync1 =>
    rw [Parser.fetch_sync1 h]
    split_ifs with hb
    · exact ⟨h, hb⟩
    · exact ⟨rfl, h, hb⟩
  | awaitingSync2 =>
    rw [Parser.fetch_sync2 h]
    split_ifs with hb
    · exact ⟨h, hb⟩
    · exact ⟨rfl, h, hb⟩
  | accumulatingHeader n =>
    by_cases hn : n + 1 < 10
    · rw [Parser.fetch_header h hn]
      exact ⟨rfl, n, h, hn⟩
    · rw [h] at hph
      obtain ⟨_, hle⟩ := hph
      obtain rfl : n = 9 := by omega
      rw [Parser.fetch_headerNine hwf h]
      split_ifs with hlen hcrc hfive
      · exact ⟨rfl, h, hlen⟩
      · exact ⟨rfl, h, not_lt.mp hlen, hcrc⟩
      · exact ⟨rfl, h, hfive, not_not.mp hcrc⟩
      · exact ⟨rfl, h, by omega, not_not.mp hcrc⟩
  | accumulatingBody r rem udl =>
    by_cases hrem : rem > 1
    · rw [Parser.fetch_body h hrem]
      exact ⟨rfl, r, rem, udl, h, hrem⟩
    · rw [h] at hph
      obtain ⟨_, _, hpos, _⟩ := hph
      obtain rfl : rem = 1 := by omega
      rw [Parser.fetch_bodyEnd h hrem]
      split_ifs with hok
      · exact ⟨rfl, r, udl, h, by simpa [blocksOk] using hok⟩
      · exact ⟨rfl, r, udl, h, blocksOk_eq_false_iff.mp (Bool.eq_false_of_not_eq_true hok)⟩

theorem Parser.eq_fetch_of_selected {i : Instr} (hwf : p.hdr.wf 10 = true) (h : Selected cfg p b i) :
    i = p.fetch cfg b := by
  cases i with
  | sync1Hit =>
    obtain ⟨hp, hb⟩ := h
    rw [Parser.fetch_sync1 hp, if_pos hb]
  | sync1Skip c =>
    obtain ⟨rfl, hp, hb⟩ := h
    rw [Parser.fetch_sync1 hp, if_neg hb]
  | sync2Hit =>
    obtain ⟨hp, hb⟩ := h
    rw [Parser.fetch_sync2 hp, if_pos hb]
  | sync2Miss c =>
    obtain ⟨rfl, hp, hb⟩ := h
    rw [Parser.fetch_sync2 hp, if_neg hb]
  | hdrAcc c =>
    obtain ⟨rfl, n, hp, hn⟩ := h
    rw [Parser.fetch_header hp hn]
  | hdrBadLength c =>
    obtain ⟨rfl, hp, hlen⟩ := h
    rw [Parser.fetch_headerNine hwf hp, if_pos hlen]
  | hdrBadCrc c =>
    obtain ⟨rfl, hp, hlen, hcrc⟩ := h
    rw [Parser.fetch_headerNine hwf hp, if_neg (by omega), if_pos hcrc]
  | hdrFrameEmpty c =>
    obtain ⟨rfl, hp, hlen, hcrc⟩ := h
    rw [Parser.fetch_headerNine hwf hp, if_neg (by omega), if_neg (not_not.mpr hcrc), if_pos hlen]
  | hdrToBody c =>
    obtain ⟨rfl, hp, hlen, hcrc⟩ := h
    rw [Parser.fetch_headerNine hwf hp, if_neg (by omega), if_neg (not_not.mpr hcrc), if_neg (by omega)]
  | bodyAcc c =>
    obtain ⟨rfl, r, rem, udl, hp, hrem⟩ := h
    rw [Parser.fetch_body hp hrem]
  | bodyBadCrc c =>
    obtain ⟨rfl, r, udl, hp, hbad⟩ := h
    rw [Parser.fetch_bodyEnd hp (by decide), blocksOk_eq_false_iff.mpr hbad]
    rfl
  | bodyFrame c =>
    obtain ⟨rfl, r, udl, hp, hgood⟩ := h
    rw [Parser.fetch_bodyEnd hp (by decide), if_pos (by simpa [blocksOk] using hgood)]
  | _ => exact h.elim

end

end Sys2Proof.Machine

section
open Sys2Proof Sys2Proof.Machine

/-- Settles O1: each conjunct is the decoder run on one byte. -/
theorem decodesWordsWrittenFromTheTable : Obligations.DecodesWordsWrittenFromTheTable := by
  unfold Obligations.DecodesWordsWrittenFromTheTable
  decide

/-- Settles O2: every row has a reader, and `decode_encode` is the round trip under each that selects it. -/
theorem decodeOfEncodeIsTheInstruction : Obligations.DecodeOfEncodeIsTheInstruction := by
  unfold Obligations.DecodeOfEncodeIsTheInstruction
  exact fun i hwf => ⟨exists_reader_selects i, fun _ h => decode_encode hwf h⟩

/-- Settles O3, reader by reader. -/
theorem encodeOfDecodeIsTheByte : Obligations.EncodeOfDecodeIsTheByte := by
  unfold Obligations.EncodeOfDecodeIsTheByte
  exact encode_decode

/-- Settles O4: the fetched operation meets its row, phase by phase, and every row that is met is the fetched one, row by row. -/
theorem exactlyOneOperationIsSelected : Obligations.ExactlyOneOperationIsSelected := by
  unfold Obligations.ExactlyOneOperationIsSelected
  exact fun cfg p b hwf hph => ⟨Parser.selected_fetch hwf hph, fun _ h => Parser.eq_fetch_of_selected hwf h⟩

/-- Settles O25: the decoded record gives its control byte back. -/
theorem controlFieldsLoseNoBit : Obligations.ControlFieldsLoseNoBit := by
  unfold Obligations.ControlFieldsLoseNoBit
  intro cfg c d h
  rw [← controlByte_decodeControl cfg c, h, controlByte_decodeControl]

end

/-! # Decoding a frame

A header and a body are followed byte by byte into their buffers, and the checks are read off the bytes the buffers then hold; with
this O47, O48 and O49 are settled. -/

namespace Sys2Proof.Machine

/-! ## Decoding a list of bytes -/

theorem Parser.decode_cons_eq_next {cfg : Config} {p q : Parser} {b : Byte} {bs : List Byte} {evs : List Event}
    (hd : Parser.decode cfg p (b :: bs) = .next (q, evs)) :
    ∃ p1 evs1 evs2, p.step cfg b = .next (p1, evs1) ∧ Parser.decode cfg p1 bs = .next (q, evs2) ∧
      evs = evs1 ++ evs2 := by
  obtain ⟨⟨p1, evs1⟩, hs, hrest⟩ := andThen_eq_next hd
  obtain ⟨⟨p2, evs2⟩, hd2, hend⟩ := andThen_eq_next hrest
  cases hend
  exact ⟨p1, evs1, evs2, hs, hd2, rfl⟩

theorem Parser.decode_append {cfg : Config} {p q q' : Parser} {bs bs' : List Byte} {evs evs' : List Event}
    (hd : Parser.decode cfg p bs = .next (q, evs)) (hd' : Parser.decode cfg q bs' = .next (q', evs')) :
    Parser.decode cfg p (bs ++ bs') = .next (q', evs ++ evs') := by
  induction bs generalizing p evs with
  | nil =>
    cases hd
    exact hd'
  | cons b bs ih =>
    obtain ⟨p1, evs1, evs2, hs, hd2, rfl⟩ := Parser.decode_cons_eq_next hd
    rw [List.append_assoc]
    exact Parser.decode_cons hs (ih hd2)

theorem Parser.decode_singleton {cfg : Config} {p q : Parser} {b : Byte} {evs : List Event}
    (hs : p.step cfg b = .next (q, evs)) : Parser.decode cfg p [b] = .next (q, evs) := by
  simpa using Parser.decode_cons hs (show Parser.decode cfg q [] = .next (q, []) from rfl)

theorem Parser.Inv.of_decode {cfg : Config} {p q : Parser} {bs : List Byte} {evs : List Event} (h : p.Inv cfg)
    (hd : Parser.decode cfg p bs = .next (q, evs)) : q.Inv cfg := by
  induction bs generalizing p evs with
  | nil =>
    cases hd
    exact h
  | cons b bs ih =>
    obtain ⟨p1, evs1, evs2, hs, hd2, rfl⟩ := Parser.decode_cons_eq_next hd
    exact ih (h.of_step hs) hd2

/-! ## Two-byte fields -/

theorem le16_low_high (v : Half) : le16 v.low v.high = v := by
  refine BitVec.eq_of_getLsbD_eq fun i hi => ?_
  rcases Nat.lt_or_ge i 8 with h | h
  · simp [le16, Half.low, Half.high, h, hi]
  · have hshift : 8 + (i - 8) = i := by omega
    have hlow : i - 8 < 8 := by omega
    have hhalf : i - 8 < 16 := by omega
    simp [le16, Half.low, Half.high, Nat.not_lt.mpr h, hi, hshift, hlow, hhalf]

theorem xorLowByte_ne (v : Half) : v ^^^ 0x00FF#16 ≠ v := by simp

/-- Corrupting the low byte of a field on the wire corrupts the field (R38, R66). -/
theorem xorAt_wire16 (pre : List Byte) (v : Half) (post : List Byte) :
    xorAt (pre ++ wire16 v ++ post) pre.length 0xFF#8 = pre ++ wire16 (v ^^^ 0x00FF#16) ++ post := by
  have hlow : (v ^^^ 0x00FF#16).low = v.low ^^^ 0xFF#8 := BitVec.setWidth_xor
  have hhigh : (v ^^^ 0x00FF#16).high = v.high := by
    rw [Half.high, BitVec.ushiftRight_xor_distrib, BitVec.setWidth_xor]
    exact BitVec.xor_zero
  simp [xorAt, wire16, hlow, hhigh]

/-! ## What a buffer holds -/

/-- The buffer holds the bytes `bs` from index 0 on. -/
def Buffer.Holds (m : Buffer) (bs : List Byte) : Prop := ∀ i b, bs[i]? = some b → m.read i = b

theorem Buffer.holds_nil (m : Buffer) : m.Holds [] := nofun

theorem Buffer.Holds.write {m : Buffer} {size : Nat} {bs : List Byte} (h : m.Holds bs) (hm : m.wf size = true) (b : Byte) :
    (m.write bs.length b).Holds (bs ++ [b]) := by
  intro i c hc
  rw [Buffer.read_write hm]
  split_ifs with hi
  · simpa [hi] using hc
  · have hle : i < (bs ++ [b]).length := (List.getElem?_eq_some_iff.mp hc).1
    rw [List.length_append, List.length_singleton] at hle
    have hlt : i < bs.length := by omega
    rw [List.getElem?_append_left hlt] at hc
    exact h i c hc

/-- The byte at index `i` of a segment. -/
theorem Buffer.Holds.read_segment {m : Buffer} {pre seg post : List Byte} (h : m.Holds (pre ++ seg ++ post)) {i : Nat}
    {b : Byte} (hb : seg[i]? = some b) : m.read (pre.length + i) = b := by
  have hlt := (List.getElem?_eq_some_iff.mp hb).1
  apply h
  rw [List.getElem?_append_left (by simp; omega), List.getElem?_append_right (by omega)]
  simpa using hb

theorem Buffer.Holds.slice_segment {m : Buffer} {pre seg post : List Byte} (h : m.Holds (pre ++ seg ++ post)) :
    m.slice pre.length seg.length = seg := by
  refine List.ext_getElem (Buffer.slice_length _ _ _) fun i _ hi => ?_
  simpa [Buffer.slice] using h.read_segment (List.getElem?_eq_getElem hi)

/-! ## The header -/

/-- The eight bytes the header CRC covers, as R66 writes them. -/
def coveredHeader (len ctl : Byte) (dst src : Half) : List Byte := [SYNC1, SYNC2, len, ctl] ++ wire16 dst ++ wire16 src

theorem frameHeader_eq (cfg : Config) (len ctl : Byte) (dst src : Half) :
    frameHeader cfg len ctl dst src =
      coveredHeader len ctl dst src ++ wire16 (cfg.crc16 (coveredHeader len ctl dst src)) := rfl

theorem badHcrc_frameHeader (cfg : Config) (len ctl : Byte) (dst src : Half) :
    badHcrc (frameHeader cfg len ctl dst src) =
      coveredHeader len ctl dst src ++ wire16 (cfg.crc16 (coveredHeader len ctl dst src) ^^^ 0x00FF#16) := by
  have h := xorAt_wire16 (coveredHeader len ctl dst src) (cfg.crc16 (coveredHeader len ctl dst src)) []
  rwa [List.append_nil, List.append_nil] at h

section
variable {hdr : Buffer} {len ctl : Byte} {dst src crc : Half}
  (h : hdr.Holds (coveredHeader len ctl dst src ++ wire16 crc))
include h

theorem Buffer.Holds.lengthByte_eq : lengthByte hdr = len := h 2 len rfl

theorem Buffer.Holds.userDataLength_eq : userDataLength hdr = len.toNat - 5 := congrArg (·.toNat - 5) h.lengthByte_eq

theorem Buffer.Holds.headerSpan_eq : headerSpan hdr = coveredHeader len ctl dst src := by
  have h' : hdr.Holds ([] ++ coveredHeader len ctl dst src ++ wire16 crc) := h
  exact h'.slice_segment

theorem Buffer.Holds.headerCrc_eq : headerCrc hdr = crc := by
  rw [headerCrc, h 8 crc.low rfl, h 9 crc.high rfl, le16_low_high]

theorem Buffer.Holds.headerOf_eq (cfg : Config) :
    headerOf cfg hdr = { control := decodeControl cfg ctl, destination := dst, source := src } := by
  rw [headerOf, ctrlByte, destination, source, h 3 ctl rfl, h 4 dst.low rfl, h 5 dst.high rfl, h 6 src.low rfl,
    h 7 src.high rfl, le16_low_high, le16_low_high]

end

/-- A header is being accumulated, and its bytes so far are `bs`. -/
structure Parser.InHeader (cfg : Config) (p : Parser) (bs : List Byte) : Prop where
  inv   : p.Inv cfg
  phase : p.phase = .accumulatingHeader bs.length
  holds : p.hdr.Holds bs

/-- The two sync bytes open a header (R87, R89). -/
theorem Parser.Inv.inHeader_sync {cfg : Config} {p : Parser} (h : p.Inv cfg) (hp : p.phase = .awaitingSync1) :
    ∃ q, Parser.decode cfg p [SYNC1, SYNC2] = .next (q, []) ∧ q.InHeader cfg [SYNC1, SYNC2] := by
  have hd : Parser.decode cfg p [SYNC1, SYNC2] = _ :=
    Parser.decode_cons (Parser.step_sync1Hit cfg hp) (Parser.decode_singleton (Parser.step_sync2Hit cfg rfl))
  have hw : (p.hdr.write 0 SYNC1).wf 10 = true := Buffer.wf_write h.hdrWf (by decide)
  exact ⟨_, hd, h.of_decode hd, rfl, ((p.hdr.holds_nil).write h.hdrWf SYNC1).write hw SYNC2⟩

/-- Header bytes short of the last join those in the buffer, and emit nothing (R94). -/
theorem Parser.InHeader.decode {cfg : Config} {p : Parser} {pre bs : List Byte} (h : p.InHeader cfg pre)
    (hlen : pre.length + bs.length ≤ 9) :
    ∃ q, Parser.decode cfg p bs = .next (q, []) ∧ q.InHeader cfg (pre ++ bs) := by
  induction bs generalizing p pre with
  | nil => exact ⟨p, rfl, by rwa [List.append_nil]⟩
  | cons b bs ih =>
    rw [List.length_cons] at hlen
    have hs := Parser.step_hdrAcc cfg b h.phase (by omega)
    have h1 : Parser.InHeader cfg _ (pre ++ [b]) :=
      ⟨h.inv.of_step hs, by rw [List.length_append]; rfl, h.holds.write h.inv.hdrWf b⟩
    obtain ⟨q, hd, hq⟩ := ih h1 (by simp; omega)
    exact ⟨q, Parser.decode_cons hs hd, by rwa [List.append_assoc] at hq⟩

/-- The four ends of R96 for a header written as in R66, whatever CRC it stores: the header bytes are in the buffer, and the
checks and the event read them there. -/
theorem Parser.Inv.decode_header {cfg : Config} {p : Parser} (h : p.Inv cfg) (hp : p.phase = .awaitingSync1)
    (len ctl : Byte) (dst src crc : Half) :
    ∃ hdr body : Buffer, hdr.Holds (coveredHeader len ctl dst src ++ wire16 crc) ∧
      Parser.decode cfg p (coveredHeader len ctl dst src ++ wire16 crc) = .next (
        let q : Parser := { phase := .awaitingSync1, hdr := hdr, body := body }
        if len.toNat < 5 then (q, [.error (.badLength len)])
        else if cfg.crc16 (coveredHeader len ctl dst src) ≠ crc then (q, [.error .badHeaderCrc])
        else if len.toNat = 5 then
          (q, [.frame { control := decodeControl cfg ctl, destination := dst, source := src } []])
        else ({ q with phase := .accumulatingBody 0 (bodySize (len.toNat - 5)) (len.toNat - 5) }, [])) := by
  obtain ⟨p1, hd1, h1⟩ := h.inHeader_sync hp
  obtain ⟨p2, hd2, h2⟩ := h1.decode (bs := [len, ctl] ++ wire16 dst ++ wire16 src ++ [crc.low]) (by simp [wire16])
  have hh : (p2.hdr.write 9 crc.high).Holds (coveredHeader len ctl dst src ++ wire16 crc) :=
    h2.holds.write h2.inv.hdrWf crc.high
  have hs := Parser.step_hdrEnd cfg crc.high h2.phase (by simp [wire16])
  simp only [hh.lengthByte_eq, hh.headerSpan_eq, hh.headerCrc_eq, hh.headerOf_eq, hh.userDataLength_eq] at hs
  exact ⟨_, p2.body, hh, Parser.decode_append hd1 (Parser.decode_append hd2 (Parser.decode_singleton hs))⟩

theorem Parser.Inv.decode_badLength {cfg : Config} {p : Parser} (h : p.Inv cfg) (hp : p.phase = .awaitingSync1)
    {len : Byte} (hlen : len.toNat < 5) (ctl : Byte) (dst src crc : Half) :
    ∃ q, Parser.decode cfg p (coveredHeader len ctl dst src ++ wire16 crc) = .next (q, [.error (.badLength len)]) ∧
      q.phase = .awaitingSync1 := by
  obtain ⟨hdr, body, -, hd⟩ := h.decode_header hp len ctl dst src crc
  rw [if_pos hlen] at hd
  exact ⟨_, hd, rfl⟩

theorem Parser.Inv.decode_badHeaderCrc {cfg : Config} {p : Parser} (h : p.Inv cfg) (hp : p.phase = .awaitingSync1)
    {len : Byte} (hlen : 5 ≤ len.toNat) (ctl : Byte) (dst src : Half) {crc : Half}
    (hcrc : cfg.crc16 (coveredHeader len ctl dst src) ≠ crc) :
    ∃ q, Parser.decode cfg p (coveredHeader len ctl dst src ++ wire16 crc) = .next (q, [.error .badHeaderCrc]) ∧
      q.phase = .awaitingSync1 := by
  obtain ⟨hdr, body, -, hd⟩ := h.decode_header hp len ctl dst src crc
  rw [if_neg (Nat.not_lt.mpr hlen), if_pos hcrc] at hd
  exact ⟨_, hd, rfl⟩

/-! ## The body -/

/-- A body of `udl` user-data bytes is being accumulated behind the header in `hdr`, and its bytes so far are `bs`. -/
structure Parser.InBody (cfg : Config) (p : Parser) (hdr : Buffer) (udl : Nat) (bs : List Byte) : Prop where
  inv   : p.Inv cfg
  phase : p.phase = .accumulatingBody bs.length (bodySize udl - bs.length) udl
  hdr   : p.hdr = hdr
  holds : p.body.Holds bs

theorem Parser.InBody.bodySize_bounds {cfg : Config} {p : Parser} {hdr : Buffer} {udl : Nat} {bs : List Byte}
    (h : p.InBody cfg hdr udl bs) : bs.length < bodySize udl ∧ bodySize udl ≤ 282 := by
  have hwf := h.inv.phaseWf
  rw [h.phase] at hwf
  obtain ⟨_, hudl, hrem, _⟩ := hwf
  exact ⟨by omega, bodySize_le_maxBody hudl⟩

/-- Body bytes short of the last join those in the buffer, and emit nothing (R107, R112). -/
theorem Parser.InBody.decode {cfg : Config} {p : Parser} {hdr : Buffer} {udl : Nat} {pre bs : List Byte}
    (h : p.InBody cfg hdr udl pre) (hlen : pre.length + bs.length < bodySize udl) :
    ∃ q, Parser.decode cfg p bs = .next (q, []) ∧ q.InBody cfg hdr udl (pre ++ bs) := by
  induction bs generalizing p pre with
  | nil => exact ⟨p, rfl, by rwa [List.append_nil]⟩
  | cons b bs ih =>
    rw [List.length_cons] at hlen
    obtain ⟨_, hsize⟩ := h.bodySize_bounds
    have hs := Parser.step_bodyAcc cfg b h.phase (by omega) (by omega)
    have h1 : Parser.InBody cfg _ hdr udl (pre ++ [b]) :=
      ⟨h.inv.of_step hs, by rw [List.length_append]; rfl, h.hdr, h.holds.write h.inv.bodyWf b⟩
    obtain ⟨q, hd, hq⟩ := ih h1 (by simp; omega)
    exact ⟨q, Parser.decode_cons hs hd, by rwa [List.append_assoc] at hq⟩

/-- The two ends of R109 for a whole body region: its bytes are in the buffer, the checks and the payload are read there, and all
bytes but the last emit nothing. -/
theorem Parser.InBody.decode_all {cfg : Config} {p : Parser} {hdr : Buffer} {udl : Nat} {bs : List Byte}
    (h : p.InBody cfg hdr udl []) (hlen : bs.length = bodySize udl) :
    ∃ body : Buffer, body.Holds bs ∧
      Parser.decode cfg p bs = .next ({ phase := .awaitingSync1, hdr := hdr, body := body },
        [if blocksOk cfg body udl then .frame (headerOf cfg hdr) (payload body udl) else .error .badBodyCrc]) ∧
      ∃ q, Parser.decode cfg p bs.dropLast = .next (q, []) := by
  obtain ⟨hpos, hsize⟩ := h.bodySize_bounds
  obtain rfl | ⟨init, b, rfl⟩ := bs.eq_nil_or_concat'
  · exact absurd hlen hpos.ne
  · rw [List.length_append, List.length_singleton] at hlen
    obtain ⟨q, hd, hq⟩ := h.decode (bs := init) (by simp; omega)
    rw [List.nil_append] at hq
    have hs := Parser.step_bodyEnd cfg b hq.phase (by omega) (by omega) hsize
    rw [hq.hdr] at hs
    exact ⟨_, hq.holds.write hq.inv.bodyWf b, Parser.decode_append hd (Parser.decode_singleton hs),
      q, by rwa [List.dropLast_concat]⟩

/-! ## Reading one block of a body (R110) -/

section
variable {body : Buffer} {udl k : Nat} {pre data post : List Byte} {crc : Half}
  (h : body.Holds (pre ++ (data ++ wire16 crc) ++ post)) (hpre : pre.length = blockStart k)
  (hdata : data.length = blockLen udl k)
include h hpre hdata

theorem Buffer.Holds.blockData_eq : blockData body udl k = data := by
  rw [← List.append_assoc, List.append_assoc _ _ post] at h
  rw [blockData, ← hpre, ← hdata]
  exact h.slice_segment

theorem Buffer.Holds.blockCrc_eq : blockCrc body udl k = crc := by
  rw [← List.append_assoc] at h
  rw [blockCrc, ← hpre, ← hdata, ← List.length_append]
  have hlow : body.read ((pre ++ data).length + 0) = crc.low := h.read_segment rfl
  have hhigh : body.read ((pre ++ data).length + 1) = crc.high := h.read_segment rfl
  rw [Nat.add_zero] at hlow
  rw [hlow, hhigh, le16_low_high]

theorem Buffer.Holds.blockOk_iff (cfg : Config) : blockOk cfg body udl k = true ↔ cfg.crc16 data = crc := by
  rw [blockOk, h.blockData_eq hpre hdata, h.blockCrc_eq hpre hdata, beq_iff_eq]

end

/-! ## The body region of R66 -/

theorem length_dataBlock (d : List Byte) (k : Nat) : (dataBlock d k).length = blockLen d.length k := by
  simp [dataBlock, blockLen]

/-- The bytes of the first `n` blocks: their user data and two CRC bytes each (R105, R106). -/
theorem length_frameBlocks (cfg : Config) (d : List Byte) (n : Nat) :
    ((List.range n).flatMap (frameBlock cfg d)).length = min (16 * n) d.length + 2 * n := by
  induction n with
  | zero => simp
  | succ n ih =>
    rw [List.range_succ, List.flatMap_append, List.length_append, ih, List.flatMap_singleton, frameBlock,
      List.length_append, length_dataBlock, blockLen]
    simp only [wire16, List.length_cons, List.length_nil]
    omega

theorem length_frameBody (cfg : Config) (d : List Byte) : (frameBody cfg d).length = bodySize d.length := by
  rw [frameBody, length_frameBlocks, bodySize_eq, blockCount]
  omega

/-- Block `k` stands at its offset in the body region (R106). -/
theorem frameBody_eq_around_block (cfg : Config) {d : List Byte} {k : Nat} (hk : k < blockCount d.length) :
    ∃ pre post, pre.length = blockStart k ∧
      frameBody cfg d = pre ++ (dataBlock d k ++ wire16 (cfg.crc16 (dataBlock d k))) ++ post := by
  obtain ⟨m, hm⟩ := Nat.exists_eq_add_of_lt hk
  have hpre : ((List.range k).flatMap (frameBlock cfg d)).length = blockStart k := by
    rw [length_frameBlocks, blockStart]
    unfold blockCount at hk
    omega
  refine ⟨_, (((List.range m).map Nat.succ).map (k + ·)).flatMap (frameBlock cfg d), hpre, ?_⟩
  rw [frameBody, hm, Nat.add_assoc, List.range_add, List.flatMap_append, List.range_succ_eq_map, List.map_cons,
    List.flatMap_cons, Nat.add_zero, List.append_assoc]
  rfl

section
variable {cfg : Config} {body : Buffer} {d : List Byte} (h : body.Holds (frameBody cfg d))
include h

theorem Buffer.Holds.blocksOk_frameBody : blocksOk cfg body d.length = true := by
  rw [blocksOk, List.all_eq_true]
  intro k hk
  obtain ⟨pre, post, hpre, hbody⟩ := frameBody_eq_around_block cfg (List.mem_range.mp hk)
  exact ((hbody ▸ h).blockOk_iff hpre (length_dataBlock d k) cfg).mpr rfl

/-- Payload byte `i` is byte `i % 16` of block `i / 16` (R36, R113). -/
theorem Buffer.Holds.payload_frameBody : payload body d.length = d := by
  refine List.ext_getElem (by simp [payload]) fun i _ hi => ?_
  have hk : i / 16 < blockCount d.length := by
    unfold blockCount
    omega
  obtain ⟨pre, post, hpre, hbody⟩ := frameBody_eq_around_block cfg hk
  rw [hbody, ← List.append_assoc, List.append_assoc _ _ post] at h
  have hbyte : (dataBlock d (i / 16))[i % 16]? = some d[i] := by
    rw [dataBlock, List.getElem?_take_of_lt (Nat.mod_lt i (by decide)), List.getElem?_drop, Nat.div_add_mod]
    exact List.getElem?_eq_getElem hi
  have hread := h.read_segment hbyte
  rw [hpre] at hread
  simpa [payload, payloadIndex, blockStart] using hread

end

/-! ## Whole frames -/

theorem toNat_frameLength {n : Nat} (h : n ≤ 250) : (BitVec.ofNat 8 (5 + n)).toNat = 5 + n :=
  (BitVec.toNat_ofNat _ _).trans (Nat.mod_eq_of_lt (by omega))

/-- A good header that announces `udl` bytes, at least one, followed by a body region of that size with any contents: the blocks of
the body decide between the frame and the error, and all bytes but the last emit nothing. -/
theorem Parser.Inv.decode_header_body {cfg : Config} {p : Parser} (h : p.Inv cfg) (hp : p.phase = .awaitingSync1)
    (ctl : Byte) (dst src : Half) {udl : Nat} (hpos : 0 < udl) (hudl : udl ≤ 250) {bs : List Byte}
    (hlen : bs.length = bodySize udl) :
    ∃ q body, body.Holds bs ∧ q.phase = .awaitingSync1 ∧
      Parser.decode cfg p (frameHeader cfg (BitVec.ofNat 8 (5 + udl)) ctl dst src ++ bs) = .next (q,
        [if blocksOk cfg body udl then
          .frame { control := decodeControl cfg ctl, destination := dst, source := src } (payload body udl)
         else .error .badBodyCrc]) ∧
      ∃ q', Parser.decode cfg p (frameHeader cfg (BitVec.ofNat 8 (5 + udl)) ctl dst src ++ bs).dropLast =
        .next (q', []) := by
  obtain ⟨hdr, body0, hh, hd⟩ := h.decode_header hp (BitVec.ofNat 8 (5 + udl)) ctl dst src
    (cfg.crc16 (coveredHeader (BitVec.ofNat 8 (5 + udl)) ctl dst src))
  simp only [toNat_frameLength hudl, Nat.add_sub_cancel_left] at hd
  rw [if_neg (by omega), if_neg (not_not.mpr rfl), if_neg (by omega), ← frameHeader_eq] at hd
  have hbody : Parser.InBody cfg _ hdr udl [] := ⟨h.of_decode hd, rfl, rfl, body0.holds_nil⟩
  obtain ⟨body, hb, hdb, q', hq'⟩ := hbody.decode_all hlen
  have hne : bs ≠ [] := List.ne_nil_of_length_pos (by have := three_le_bodySize hpos; omega)
  rw [hh.headerOf_eq cfg] at hdb
  refine ⟨_, body, hb, rfl, Parser.decode_append hd hdb, q', ?_⟩
  rw [List.dropLast_append_of_ne_nil hne]
  exact Parser.decode_append hd hq'

/-- A frame without user data is its header (R103). -/
theorem Parser.Inv.decode_frame_nil {cfg : Config} {p : Parser} (h : p.Inv cfg) (hp : p.phase = .awaitingSync1)
    (ctl : Byte) (dst src : Half) :
    ∃ q, Parser.decode cfg p (frame cfg ctl dst src []) =
        .next (q, [.frame { control := decodeControl cfg ctl, destination := dst, source := src } []]) ∧
      q.phase = .awaitingSync1 := by
  obtain ⟨hdr, body, -, hd⟩ := h.decode_header hp 5#8 ctl dst src (cfg.crc16 (coveredHeader 5#8 ctl dst src))
  rw [if_neg (by decide), if_neg (not_not.mpr rfl), if_pos (by decide)] at hd
  exact ⟨_, hd, rfl⟩

theorem Parser.Inv.decode_frame {cfg : Config} {p : Parser} (h : p.Inv cfg) (hp : p.phase = .awaitingSync1)
    (ctl : Byte) (dst src : Half) {d : List Byte} (hlen : d.length ≤ 250) :
    ∃ q, Parser.decode cfg p (frame cfg ctl dst src d) =
        .next (q, [.frame { control := decodeControl cfg ctl, destination := dst, source := src } d]) ∧
      q.phase = .awaitingSync1 := by
  obtain rfl | hne := eq_or_ne d []
  · exact h.decode_frame_nil hp ctl dst src
  · obtain ⟨q, body, hb, hq, hd, -⟩ := h.decode_header_body hp ctl dst src (List.length_pos_of_ne_nil hne) hlen
      (length_frameBody cfg d)
    rw [if_pos hb.blocksOk_frameBody, hb.payload_frameBody] at hd
    exact ⟨q, hd, hq⟩

/-- Corrupting the CRC of block `k` (R66): only the stored value changes. -/
theorem badBcrc_frame {cfg : Config} {d : List Byte} {k : Nat} (hlen : d.length ≤ 250) (ctl : Byte) (dst src : Half)
    {pre post : List Byte} (hpre : pre.length = blockStart k)
    (hbody : frameBody cfg d = pre ++ (dataBlock d k ++ wire16 (cfg.crc16 (dataBlock d k))) ++ post) :
    badBcrc (frame cfg ctl dst src d) k = frameHeader cfg (BitVec.ofNat 8 (5 + d.length)) ctl dst src ++
      (pre ++ (dataBlock d k ++ wire16 (cfg.crc16 (dataBlock d k) ^^^ 0x00FF#16)) ++ post) := by
  have hidx : 10 + blockStart k + blockLen (((frame cfg ctl dst src d).getD 2 0#8).toNat - MIN_LEN) k =
      (frameHeader cfg (BitVec.ofNat 8 (5 + d.length)) ctl dst src ++ pre ++ dataBlock d k).length := by
    have hbyte : (frame cfg ctl dst src d).getD 2 0#8 = BitVec.ofNat 8 (5 + d.length) := rfl
    have hten : (frameHeader cfg (BitVec.ofNat 8 (5 + d.length)) ctl dst src).length = 10 := rfl
    rw [hbyte, toNat_frameLength hlen, MIN_LEN, Nat.add_sub_cancel_left, List.length_append, List.length_append,
      length_dataBlock, hpre, hten]
  have h := xorAt_wire16 (frameHeader cfg (BitVec.ofNat 8 (5 + d.length)) ctl dst src ++ pre ++ dataBlock d k)
    (cfg.crc16 (dataBlock d k)) post
  rw [badBcrc, hidx, frame, frameL, hbody]
  simpa only [List.append_assoc] using h

end Sys2Proof.Machine

section
open Sys2Proof Sys2Proof.Machine

/-- Settles O47: the frame is delivered, and decoding keeps the invariant. -/
theorem wellFormedFrameIsDelivered : Obligations.WellFormedFrameIsDelivered := by
  unfold Obligations.WellFormedFrameIsDelivered
  intro cfg p ctl dst src d h hp hlen
  obtain ⟨q, hd, hq⟩ := h.decode_frame hp ctl dst src hlen
  exact ⟨q, hd, hq, h.of_decode hd⟩

/-- Settles O48: the corrupted region is as long as the good one, and block `k` in it fails its check. -/
theorem corruptedBlockIsReportedOnce : Obligations.CorruptedBlockIsReportedOnce := by
  unfold Obligations.CorruptedBlockIsReportedOnce
  intro cfg p ctl dst src d k h hp hlen hk
  obtain ⟨pre, post, hpre, hbody⟩ := frameBody_eq_around_block cfg hk
  have hsize : (pre ++ (dataBlock d k ++ wire16 (cfg.crc16 (dataBlock d k) ^^^ 0x00FF#16)) ++ post).length =
      bodySize d.length := by
    rw [← length_frameBody cfg d, hbody]
    simp [wire16]
  have hpos : 0 < d.length := by
    unfold blockCount at hk
    omega
  rw [badBcrc_frame hlen ctl dst src hpre hbody]
  obtain ⟨q, body, hb, hq, hd, hsilent⟩ := h.decode_header_body hp ctl dst src hpos hlen hsize
  have hbad : blocksOk cfg body d.length = false := blocksOk_eq_false_iff.mpr ⟨k, hk, Bool.eq_false_iff.mpr fun hok =>
    xorLowByte_ne _ ((hb.blockOk_iff hpre (length_dataBlock d k) cfg).mp hok).symm⟩
  rw [hbad] at hd
  exact ⟨q, hd, hq, hsilent⟩

/-- Settles O49: a bad length is reported whatever CRC is stored, and behind a good one a corrupted CRC is. -/
theorem malformedHeaderIsReportedOnce : Obligations.MalformedHeaderIsReportedOnce := by
  unfold Obligations.MalformedHeaderIsReportedOnce
  intro cfg p len ctl dst src h hp
  rw [badHcrc_frameHeader, frameHeader_eq]
  exact ⟨fun hlen => ⟨h.decode_badLength hp hlen ctl dst src _, h.decode_badLength hp hlen ctl dst src _⟩,
    fun hlen => h.decode_badHeaderCrc hp hlen ctl dst src (xorLowByte_ne _).symm⟩

end

/-! # The control byte and its named functions

Each class presents its masked value and flags, and `NAMED_FUNCTIONS` shows in nothing but the tag of the function; with this O6, O22,
O23, O24 and O26 are settled. -/

namespace Sys2Proof.Machine

/-! ## The thirty-two classes -/

theorem classValue_inj : ∀ {prm prm' : Bool} {func func' : Fin 16}, classValue prm func = classValue prm' func' →
    prm = prm' ∧ func = func' := by
  decide

/-- The masked value of a control byte settles its class; the three other bits are the operands (R61). -/
theorem decode_control_of_functionValue {c : Byte} {prm : Bool} {func : Fin 16}
    (h : functionValue c = classValue prm func) :
    decode .control c = controlClass prm func (c.getLsbD 7) (c.getLsbD 5) (c.getLsbD 4) := by
  obtain ⟨hprm, hfunc⟩ := classValue_inj ((classValue_fields c).trans h)
  rw [decode, decodeControlByte, hprm, hfunc]

/-- Every class presents its own masked value, known exactly when it is in the default set (R73, R76..R85). -/
theorem presentsClass_controlClass (prm : Bool) (func : Fin 16) :
    PresentsClass (controlClass prm func) (classValue prm func) (Config.standard.isNamed (classValue prm func)) := by
  constructor
  · intro c hc
    refine ⟨decode_control_of_functionValue hc, ?_⟩
    rw [decodeControl, functionValue, hc]
    rfl
  · intro dir fcb fcv s
    rw [← execWith_standard, execWith_controlClass, State.presentControl, showControl, function_value]
    unfold Config.function
    cases Config.standard.isNamed (classValue prm func) <;> rfl

/-- The function of a value, by membership in `NAMED_FUNCTIONS` (R72, R75). -/
theorem function_eq_ite_mem (cfg : Config) (fn : Byte) :
    cfg.function fn = if fn ∈ cfg.named then .named fn else .unknown fn := by
  simp [Config.function, Config.isNamed]

/-! ## The function is a label only (R74) -/

/-- What an operation answers, the Named/Unknown tag taken off its events. -/
def untagEvents (o : OpResult) : OpResult := andThen o fun r => .next (r.1, r.2.map Event.untagged)

@[simp] theorem untagEvents_next (q : Parser) (evs : List Event) :
    untagEvents (.next (q, evs)) = .next (q, evs.map Event.untagged) := rfl
@[simp] theorem untagEvents_fault (f : Fault) : untagEvents (.fault f) = .fault f := rfl
@[simp] theorem untagEvents_refused (why : Refusal) : untagEvents (.refused why) = .refused why := rfl

theorem untagEvents_eq_next_iff {o : OpResult} {q : Parser} {l : List Event} :
    untagEvents o = .next (q, l) ↔ ∃ evs, o = .next (q, evs) ∧ evs.map Event.untagged = l := by
  cases o with
  | next r =>
    obtain ⟨q', evs⟩ := r
    simp
  | fault f | refused why => simp

/-- Completing a body under another named set: the payload and the header fields are the same (R115). -/
theorem Parser.untagEvents_bodyFrame_named (cfg : Config) (names : List Byte) (p : Parser) (b : Byte) :
    untagEvents (p.bodyFrame { cfg with named := names } b) = untagEvents (p.bodyFrame cfg b) := by
  simp only [Parser.bodyFrame, Parser.bodyEnd, Parser.finish]
  cases p.phase with
  | accumulatingBody r rem udl =>
    dsimp only
    split_ifs <;> simp [Event.untagged_frame_named]
  | _ => rfl

/-- A step under another named set differs in the tag alone: every check of it reads the CRC, the length and the phase (R74). -/
theorem Parser.untagEvents_step_named (cfg : Config) (names : List Byte) (p : Parser) (b : Byte) :
    untagEvents (p.step { cfg with named := names } b) = untagEvents (p.step cfg b) := by
  cases h : p.phase with
  | awaitingSync1 | awaitingSync2 => simp only [Parser.step, h]
  | accumulatingHeader n =>
    by_cases hn : n + 1 < 10
    · rw [Parser.step_hdrAcc _ b h hn, Parser.step_hdrAcc _ b h hn]
    · rw [Parser.step_hdrEnd _ b h hn, Parser.step_hdrEnd _ b h hn]
      dsimp only
      split_ifs <;> simp [Event.untagged_frame_named]
  | accumulatingBody r rem udl =>
    have hchecks : blocksOk { cfg with named := names } = blocksOk cfg := rfl
    simp only [Parser.step, h, Parser.completeBody, hchecks]
    split_ifs
    · rfl
    · exact p.untagEvents_bodyFrame_named cfg names b
    · rfl

/-- What a step answers under one named set it answers under another, with the same events but for the tag. -/
theorem Parser.step_named_of_step {cfg : Config} {p q : Parser} {b : Byte} {evs : List Event} (names : List Byte)
    (h : p.step cfg b = .next (q, evs)) :
    ∃ evs', p.step { cfg with named := names } b = .next (q, evs') ∧
      evs'.map Event.untagged = evs.map Event.untagged := by
  rw [← untagEvents_eq_next_iff, Parser.untagEvents_step_named, untagEvents_eq_next_iff]
  exact ⟨evs, h, rfl⟩

end Sys2Proof.Machine

section
open Sys2Proof Sys2Proof.Machine

/-- Settles O24: the tag by membership, and the class of a byte presents its fields. -/
theorem controlDecoderIsTotalAndPure : Obligations.ControlDecoderIsTotalAndPure := by
  unfold Obligations.ControlDecoderIsTotalAndPure
  refine fun cfg c s => ⟨?_, execWith_decode_control cfg c s⟩
  rw [decodeControl, function_eq_ite_mem]
  rfl

/-- Settles O26: `Parser.step_named_of_step` from the one set to the other, and back. -/
theorem functionValueLabelsOnly : Obligations.FunctionValueLabelsOnly := by
  unfold Obligations.FunctionValueLabelsOnly
  refine fun cfg names p b => ⟨fun q evs h => Parser.step_named_of_step names h, ?_, ?_⟩
  · rintro ⟨⟨q, evs⟩, h⟩
    obtain ⟨evs', h', -⟩ := Parser.step_named_of_step names h
    exact ⟨_, h'⟩
  · rintro ⟨⟨q, evs⟩, h⟩
    obtain ⟨evs', h', -⟩ := Parser.step_named_of_step cfg.named h
    exact ⟨_, h'⟩

/-- Settles O6: the class of `hdr[3]` has a next state, which the pending edge hands on. -/
theorem stepRunsThePendingControlByte : Obligations.StepRunsThePendingControlByte := by
  unfold Obligations.StepRunsThePendingControlByte
  rintro s i hr hv rfl
  have hexec := execWith_decode_control Config.standard (s.parser.hdr.read 3) s.tick
  rw [execWith_standard] at hexec
  refine ⟨_, hexec, ?_⟩
  rw [step, State.cycle_pending hr hv, Parser.fetchControl, ctrlByte, hexec, andThen_next]

/-- Settles O22: each is the class of its PRM bit and FUNC field, and its value is in the default set. -/
theorem namedClassesPresentTheirFunction : Obligations.NamedClassesPresentTheirFunction := by
  unfold Obligations.NamedClassesPresentTheirFunction
  exact ⟨presentsClass_controlClass true 0, presentsClass_controlClass true 2, presentsClass_controlClass true 3,
    presentsClass_controlClass true 4, presentsClass_controlClass true 9, presentsClass_controlClass false 0,
    presentsClass_controlClass false 1, presentsClass_controlClass false 11, presentsClass_controlClass false 15⟩

/-- Settles O23: each is the class of its PRM bit and FUNC field, and its value is outside the default set. -/
theorem unknownClassesPresentTheMaskedValue : Obligations.UnknownClassesPresentTheMaskedValue := by
  unfold Obligations.UnknownClassesPresentTheMaskedValue
  exact ⟨presentsClass_controlClass true 1, presentsClass_controlClass true 5, presentsClass_controlClass true 6,
    presentsClass_controlClass true 7, presentsClass_controlClass true 8, presentsClass_controlClass true 10,
    presentsClass_controlClass true 11, presentsClass_controlClass true 12, presentsClass_controlClass true 13,
    presentsClass_controlClass true 14, presentsClass_controlClass true 15, presentsClass_controlClass false 2,
    presentsClass_controlClass false 3, presentsClass_controlClass false 4, presentsClass_controlClass false 5,
    presentsClass_controlClass false 6, presentsClass_controlClass false 7, presentsClass_controlClass false 8,
    presentsClass_controlClass false 9, presentsClass_controlClass false 10, presentsClass_controlClass false 12,
    presentsClass_controlClass false 13, presentsClass_controlClass false 14⟩

end

/-! # The sync-pattern detector

The four operations of 41_sync: each is the one its phase and byte select (R60), and the equation of its meaning gives the whole
next state. With them O10, O11, O12 and O13 are settled. -/

namespace Sys2Proof.Machine

/-- The frame of an operation that emits no event. -/
theorem State.onlyParser_update (s : State) (p : Parser) : s.OnlyParser { s with parser := p } := rfl

end Sys2Proof.Machine

section
open Sys2Proof Sys2Proof.Machine

/-- Settles O10: 0x05 selects the hit, whose one write obeys the write law of a canonical buffer. -/
theorem sync1HitResult : Obligations.Sync1HitResult := by
  unfold Obligations.Sync1HitResult
  intro s hphase hwf
  have hfetch : s.parser.fetch Config.standard SYNC1 = .sync1Hit := (Parser.fetch_sync1 hphase).trans (if_pos rfl)
  exact ⟨hfetch, _, exec_sync1Hit hphase, rfl, Buffer.becomes_write hwf, rfl, s.onlyParser_update _⟩

/-- Settles O11: any other byte selects the skip, and the skip is the identity in its phase. -/
theorem sync1SkipResult : Obligations.Sync1SkipResult := by
  unfold Obligations.Sync1SkipResult
  intro s b hphase hb
  have hfetch : s.parser.fetch Config.standard b = .sync1Skip b := (Parser.fetch_sync1 hphase).trans (if_neg hb)
  exact ⟨hfetch, exec_sync1Skip hphase⟩

/-- Settles O12: 0x64 selects the hit, whose one write obeys the write law of a canonical buffer. -/
theorem sync2HitResult : Obligations.Sync2HitResult := by
  unfold Obligations.Sync2HitResult
  intro s hphase hwf
  have hfetch : s.parser.fetch Config.standard SYNC2 = .sync2Hit := (Parser.fetch_sync2 hphase).trans (if_pos rfl)
  exact ⟨hfetch, _, exec_sync2Hit hphase, rfl, Buffer.becomes_write hwf, rfl, s.onlyParser_update _⟩

/-- Settles O13: any byte but 0x64, so also 0x05, selects the miss, which changes the phase alone. -/
theorem sync2MissResult : Obligations.Sync2MissResult := by
  unfold Obligations.Sync2MissResult
  intro s b hphase hb
  have hfetch : s.parser.fetch Config.standard b = .sync2Miss b := (Parser.fetch_sync2 hphase).trans (if_neg hb)
  exact ⟨hfetch, exec_sync2Miss hphase⟩

end

/-! # Header accumulation and validation

HDR_ACC and the four ends of a header (42_header R94, R101 to R104). Which one a byte is follows from its row of R60's table; each
writes its byte where the phase points, and an event of it goes to the event register. With them O14, O15, O16, O17 and O18 are
settled. -/

namespace Sys2Proof.Machine

/-- The user data length, once the completing byte is in place, reads the length byte stored before it (R104). -/
theorem userDataLength_write_nine {b : Byte} {m : Buffer} (h : m.wf 10 = true) :
    userDataLength (m.write 9 b) = (m.read 2).toNat - 5 := by
  rw [userDataLength, lengthByte_write_nine h]

/-- At the default latency the posted event is held from the edge that posts it (R136, R147). -/
theorem State.emitted_raise (s : State) (p : Parser) (e : Event) :
    State.Emitted e s (State.raise Config.standard { s with parser := p } e) :=
  ⟨rfl, rfl, rfl, rfl⟩

/-- The frame of an operation that emits an event. -/
theorem State.onlyParserAndEvent_raise (cfg : Config) (s : State) (p : Parser) (e : Event) :
    s.OnlyParserAndEvent (State.raise cfg { s with parser := p } e) := rfl

end Sys2Proof.Machine

section
open Sys2Proof Sys2Proof.Machine

/-- Settles O14: below the last index the phase alone selects HDR_ACC, whose one write obeys the write law. -/
theorem headerAccumulationResult : Obligations.HeaderAccumulationResult := by
  unfold Obligations.HeaderAccumulationResult
  intro s n b hphase _ hn hwf
  have hlt : n + 1 < 10 := by omega
  exact ⟨Parser.fetch_header hphase hlt, _, exec_hdrAcc hphase hlt, rfl, Buffer.becomes_write hwf, rfl,
    s.onlyParser_update _⟩

/-- Settles O15: the length is checked before the CRC, and the write of `hdr[9]` leaves the reported length byte. -/
theorem headerBadLengthResult : Obligations.HeaderBadLengthResult := by
  unfold Obligations.HeaderBadLengthResult
  intro s b hphase hwf hlen
  have hsel : Selected Config.standard s.parser b (.hdrBadLength b) := ⟨rfl, hphase, hlen⟩
  have hexec := exec_hdrBadLength (b := b) hphase (by decide)
  rw [lengthByte_write_nine hwf] at hexec
  exact ⟨(Parser.eq_fetch_of_selected hwf hsel).symm, _, hexec, rfl, Buffer.becomes_write hwf, rfl,
    s.emitted_raise _ _, rfl, s.onlyParserAndEvent_raise _ _ _⟩

/-- Settles O16: a CRC that differs selects HDR_BAD_CRC at any length from 5 on, and its event names no field. -/
theorem headerBadCrcResult : Obligations.HeaderBadCrcResult := by
  unfold Obligations.HeaderBadCrcResult
  intro s b hphase hwf hlen hcrc
  have hsel : Selected Config.standard s.parser b (.hdrBadCrc b) := ⟨rfl, hphase, hlen, hcrc⟩
  exact ⟨(Parser.eq_fetch_of_selected hwf hsel).symm, _, exec_hdrBadCrc hphase (by decide), rfl,
    Buffer.becomes_write hwf, rfl, s.emitted_raise _ _, rfl, s.onlyParserAndEvent_raise _ _ _⟩

/-- Settles O17: the write of `hdr[9]` leaves the fields of the delivered header, and the payload is the empty list. -/
theorem headerEmptyFrameResult : Obligations.HeaderEmptyFrameResult := by
  unfold Obligations.HeaderEmptyFrameResult
  intro s b hphase hwf hlen hcrc
  have hsel : Selected Config.standard s.parser b (.hdrFrameEmpty b) := ⟨rfl, hphase, hlen, hcrc⟩
  have hexec := exec_hdrFrameEmpty (b := b) hphase (by decide)
  rw [headerOf_write_nine _ hwf] at hexec
  exact ⟨(Parser.eq_fetch_of_selected hwf hsel).symm, _, hexec, rfl, Buffer.becomes_write hwf, rfl,
    s.emitted_raise _ _, rfl, s.onlyParserAndEvent_raise _ _ _⟩

/-- Settles O18: the write of `hdr[9]` leaves the length byte, from which the body's counters are set. -/
theorem headerToBodyResult : Obligations.HeaderToBodyResult := by
  unfold Obligations.HeaderToBodyResult
  intro s b hphase hwf hlen hcrc
  have hsel : Selected Config.standard s.parser b (.hdrToBody b) := ⟨rfl, hphase, hlen, hcrc⟩
  have hexec := exec_hdrToBody (b := b) hphase (by decide)
  rw [userDataLength_write_nine hwf] at hexec
  exact ⟨(Parser.eq_fetch_of_selected hwf hsel).symm, _, hexec, rfl, Buffer.becomes_write hwf, rfl,
    s.onlyParser_update _⟩

end

/-! # Body segmentation and reassembly

How the blocks lie in the body region (43_body R105, R106), that the payload is their data in order (R113), and BODY_ACC and the two
ends of a body (R107, R114, R115). With them O19, O20, O21, O37, O38 and O40 are settled. -/

namespace Sys2Proof.Machine

/-! ## The blocks of a body (R35, R106) -/

/-- No block is empty. -/
theorem one_le_blockLen {udl k : Nat} (hk : k < blockCount udl) : 1 ≤ blockLen udl k := by
  unfold blockCount at hk
  unfold blockLen
  omega

/-- Every block but the last is full. -/
theorem blockLen_eq_sixteen {udl k : Nat} (hk : k + 1 < blockCount udl) : blockLen udl k = 16 := by
  unfold blockCount at hk
  unfold blockLen
  omega

/-- A full block with its CRC ends where the next block starts. -/
theorem blockStart_succ (k : Nat) : blockStart (k + 1) = blockStart k + 16 + 2 := by
  unfold blockStart
  omega

/-- The last block with its CRC ends the body region. -/
theorem blockStart_add_last_blockLen {udl k : Nat} (hk : k + 1 = blockCount udl) :
    blockStart k + blockLen udl k + 2 = bodySize udl := by
  rw [bodySize_eq]
  unfold blockCount at hk ⊢
  unfold blockStart blockLen
  omega

/-- Offset `o` of the body region lies in block `o / 18`. -/
theorem div_lt_blockCount {udl o : Nat} (ho : o < bodySize udl) : o / 18 < blockCount udl := by
  rw [bodySize_eq] at ho
  unfold blockCount at ho ⊢
  omega

/-- Offset `o` of the body region is byte `o % 18` of its block: a data byte or one of the two CRC bytes. -/
theorem mod_lt_blockLen_add_two {udl o : Nat} (ho : o < bodySize udl) : o % 18 < blockLen udl (o / 18) + 2 := by
  rw [bodySize_eq] at ho
  unfold blockCount at ho
  unfold blockLen
  omega

/-! ## The payload, block by block (R113) -/

/-- User-data byte `j` of block `k` stands `j` bytes into the block. -/
theorem payloadIndex_block (k : Nat) {j : Nat} (hj : j < 16) : payloadIndex (16 * k + j) = blockStart k + j := by
  unfold payloadIndex blockStart
  omega

/-- The data of the first `n` blocks are the first `16 * n` payload bytes, or all of them if there are fewer. -/
theorem flatMap_blockData (body : Buffer) (udl n : Nat) :
    (List.range n).flatMap (blockData body udl) = payload body (min (16 * n) udl) := by
  induction n with
  | zero => simp [payload]
  | succ n ih =>
    have hsplit : min (16 * (n + 1)) udl = min (16 * n) udl + blockLen udl n := by
      unfold blockLen
      omega
    rw [List.range_succ, List.flatMap_append, List.flatMap_singleton, ih, payload, payload, hsplit, List.range_add,
      List.map_append, List.map_map, blockData, Buffer.slice]
    congr 1
    refine List.map_congr_left fun j hj => ?_
    have hlen : j < min 16 (udl - 16 * n) := List.mem_range.mp hj
    have hfull : min (16 * n) udl = 16 * n := by omega
    rw [Function.comp_apply, hfull, payloadIndex_block n (by omega)]

theorem length_payload (body : Buffer) (udl : Nat) : (payload body udl).length = udl := by
  simp [payload]

/-- The blocks' data are the whole payload. -/
theorem payload_eq_flatMap (body : Buffer) (udl : Nat) :
    payload body udl = (List.range (blockCount udl)).flatMap (blockData body udl) := by
  have hall : min (16 * blockCount udl) udl = udl := by
    unfold blockCount
    omega
  rw [flatMap_blockData, hall]

/-! ## Which end of a body a byte is (R109) -/

section
variable {cfg : Config} {p : Parser} {r udl : Nat} {b : Byte}

theorem Parser.fetch_bodyFrame (h : p.phase = .accumulatingBody r 1 udl)
    (hgood : ∀ k < blockCount udl,
      cfg.crc16 (blockData (p.body.write r b) udl k) = blockCrc (p.body.write r b) udl k) :
    p.fetch cfg b = .bodyFrame b := by
  rw [Parser.fetch_bodyEnd h (by decide), if_pos (blocksOk_iff.mpr hgood)]

/-- One failing block is enough, whatever the others hold (R111). -/
theorem Parser.fetch_bodyBadCrc (h : p.phase = .accumulatingBody r 1 udl)
    (hbad : ∃ k < blockCount udl,
      cfg.crc16 (blockData (p.body.write r b) udl k) ≠ blockCrc (p.body.write r b) udl k) :
    p.fetch cfg b = .bodyBadCrc b := by
  obtain ⟨k, hk, hcrc⟩ := hbad
  rw [Parser.fetch_bodyEnd h (by decide), if_neg fun hok => hcrc (blocksOk_iff.mp hok k hk)]

end

end Sys2Proof.Machine

section
open Sys2Proof Sys2Proof.Machine

/-- Settles O37: the closed form is two CRC bytes for each block, and the bounds are those of a header's sizes. -/
theorem bodySizeFormula : Obligations.BodySizeFormula := by
  unfold Obligations.BodySizeFormula
  exact ⟨fun udl => ⟨rfl, bodySize_eq udl⟩, fun udl hpos hmax => ⟨three_le_bodySize hpos, bodySize_le_maxBody hmax⟩, rfl⟩

/-- Settles O38: the full blocks follow one another, the last one ends the region, and an offset divides into its block and its place
in it. -/
theorem blocksTileTheBody : Obligations.BlocksTileTheBody := by
  unfold Obligations.BlocksTileTheBody
  refine ⟨fun udl k hk => ⟨rfl, rfl, one_le_blockLen hk, Nat.min_le_left 16 _, fun hnext => ?_, fun hlast => ?_⟩,
    fun udl o ho => ⟨div_lt_blockCount ho, mod_lt_blockLen_add_two ho⟩⟩
  · have hfull := blockLen_eq_sixteen hnext
    exact ⟨hfull, by rw [hfull, blockStart_succ]⟩
  · have hend := blockStart_add_last_blockLen hlast
    omega

/-- Settles O40: the index map is the definition, and `flatMap_blockData` follows it block by block. -/
theorem payloadIsTheBlocksData : Obligations.PayloadIsTheBlocksData := by
  unfold Obligations.PayloadIsTheBlocksData
  exact fun body udl => ⟨rfl, payload_eq_flatMap body udl, length_payload body udl⟩

/-- Settles O19: with more than one byte due the phase alone selects BODY_ACC, so no block is looked at; its one write obeys the write
law. -/
theorem bodyAccumulationResult : Obligations.BodyAccumulationResult := by
  unfold Obligations.BodyAccumulationResult
  intro s r rem udl b hphase hrem hr hwf
  exact ⟨Parser.fetch_body hphase hrem, _, exec_bodyAcc hphase hrem hr, rfl, Buffer.becomes_write hwf, rfl,
    s.onlyParser_update _⟩

/-- Settles O20: a failing block selects BODY_BAD_CRC, which posts its one event without looking at the blocks again. -/
theorem bodyBadCrcResult : Obligations.BodyBadCrcResult := by
  unfold Obligations.BodyBadCrcResult
  intro s r udl b hphase hr hsize hwf hbad
  exact ⟨Parser.fetch_bodyBadCrc hphase hbad, _, exec_bodyBadCrc hphase (by decide) hr hsize, rfl,
    Buffer.becomes_write hwf, rfl, s.emitted_raise _ _, rfl, s.onlyParserAndEvent_raise _ _ _⟩

/-- Settles O21: with every block good the byte is BODY_FRAME, whose header is the stored one and whose payload is read from the body
with the last byte in place. -/
theorem bodyFrameResult : Obligations.BodyFrameResult := by
  unfold Obligations.BodyFrameResult
  intro s r udl b hphase hr hsize hwf hgood
  exact ⟨Parser.fetch_bodyFrame hphase hgood, _, exec_bodyFrame hphase (by decide) hr hsize, rfl,
    Buffer.becomes_write hwf, rfl, s.emitted_raise _ _, rfl, s.onlyParserAndEvent_raise _ _ _⟩

end

/-! # The default CRC

The default `CRC16` is a linear feedback shift register over exclusive-or (44_crc16 R118). Linearity gives the table form (R119) and
the residue (R123); a shift loses no information, which gives the other direction of R123 and the detection of a changed bit (R124).
With these O42, O43, O44, O45 and O46 are settled. -/

namespace Sys2Proof.Machine

open Function (Injective)

/-! ## One shift (R118) -/

/-- What the bit shifted out puts back into the register: the generator, or nothing. -/
def crcFeedback (out : Bool) : Half := if out then 0xA6BC#16 else 0x0000#16

theorem crcFeedback_xor (a b : Bool) : crcFeedback (a ^^ b) = crcFeedback a ^^^ crcFeedback b := by
  cases a <;> cases b <;> rfl

theorem crcShift_eq_xor (crc : Half) : crcShift crc = (crc >>> 1) ^^^ crcFeedback (crc.getLsbD 0) := by
  unfold crcShift
  split_ifs with hout
  · rw [hout]
    rfl
  · rw [Bool.eq_false_iff.mpr hout]
    exact BitVec.xor_zero.symm

theorem crcShift_xor (a b : Half) : crcShift (a ^^^ b) = crcShift a ^^^ crcShift b := by
  simp only [crcShift_eq_xor, BitVec.getLsbD_xor, BitVec.ushiftRight_xor_distrib, crcFeedback_xor]
  ac_rfl

/-- The generator's top bit is set, so the bit shifted out comes back at the top. -/
theorem getLsbD_crcShift_top (crc : Half) : (crcShift crc).getLsbD 15 = crc.getLsbD 0 := by
  rw [crcShift_eq_xor]
  cases crc.getLsbD 0 <;> simp [crcFeedback]

theorem crcShift_injective : Injective crcShift := by
  intro a b h
  have hout : a.getLsbD 0 = b.getLsbD 0 := by rw [← getLsbD_crcShift_top a, h, getLsbD_crcShift_top]
  have hrest : a >>> 1 = b >>> 1 := by
    rw [crcShift_eq_xor, crcShift_eq_xor, hout] at h
    exact (BitVec.xor_left_inj _).mp h
  refine BitVec.eq_of_getLsbD_eq fun i _ => ?_
  cases i with
  | zero => exact hout
  | succ i => simpa [Nat.add_comm] using congrArg (·.getLsbD i) hrest

/-! ## Several shifts -/

theorem crcShifts_eq_iterate (n : Nat) (crc : Half) : crcShifts n crc = crcShift^[n] crc := by
  induction n generalizing crc with
  | zero => rfl
  | succ n ih => exact ih (crcShift crc)

theorem crcShifts_add (m n : Nat) (crc : Half) : crcShifts (m + n) crc = crcShifts m (crcShifts n crc) := by
  simp only [crcShifts_eq_iterate, Function.iterate_add_apply]

theorem crcShifts_xor (n : Nat) (a b : Half) : crcShifts n (a ^^^ b) = crcShifts n a ^^^ crcShifts n b := by
  induction n generalizing a b with
  | zero => rfl
  | succ n ih => rw [crcShifts, crcShift_xor, ih, crcShifts, crcShifts]

theorem crcShifts_injective (n : Nat) : Injective (crcShifts n) := by
  rw [funext (crcShifts_eq_iterate n)]
  exact crcShift_injective.iterate n

/-- While only zeros are shifted out, nothing is fed back. -/
theorem crcShifts_eq_ushiftRight {n : Nat} {crc : Half} (h : ∀ i < n, crc.getLsbD i = false) :
    crcShifts n crc = crc >>> n := by
  induction n generalizing crc with
  | zero => exact (BitVec.ushiftRight_zero crc).symm
  | succ n ih =>
    have hshift : crcShift crc = crc >>> 1 := by
      rw [crcShift, h 0 (Nat.succ_pos n)]
      rfl
    rw [crcShifts, hshift, ih fun i hi => ?_, ← BitVec.shiftRight_add, Nat.add_comm]
    rw [BitVec.getLsbD_ushiftRight]
    exact h (1 + i) (by omega)

/-! ## One byte (R118, R119) -/

/-- A byte is exclusive-ored into the lower half of the register. -/
theorem ushiftRight_xor_byte (crc : Half) (b : Byte) : (crc ^^^ b.setWidth 16) >>> 8 = crc >>> 8 := by
  refine BitVec.eq_of_getLsbD_eq fun i _ => ?_
  simp

/-- The upper byte of the register moves down as it is; the lower byte alone drives the feedback. -/
theorem crcShifts_eight_eq_xor_crcTable (crc : Half) : crcShifts 8 crc = (crc >>> 8) ^^^ crcTable (crc.setWidth 8) := by
  have hlow : ∀ i < 8, (crc ^^^ (crc.setWidth 8).setWidth 16).getLsbD i = false := by
    intro i hi
    have hi16 : i < 16 := by omega
    simp [hi, hi16]
  rw [crcTable, ← ushiftRight_xor_byte crc (crc.setWidth 8), ← crcShifts_eq_ushiftRight hlow, ← crcShifts_xor,
    BitVec.xor_assoc, BitVec.xor_self, BitVec.xor_zero]

theorem crcByteByTable_eq_crcByte : crcByteByTable = crcByte := by
  funext crc b
  rw [crcByteByTable, crcByte, crcShifts_eight_eq_xor_crcTable, ushiftRight_xor_byte]

theorem crcByte_zero : crcByte 0#16 0#8 = 0#16 := by decide

theorem crcByte_left_injective (b : Byte) : Injective (crcByte · b) := fun _ _ h =>
  (BitVec.xor_left_inj _).mp (crcShifts_injective 8 h)

theorem crcByte_right_injective (crc : Half) : Injective (crcByte crc) := by
  intro a b h
  have hwide : a.setWidth 16 = b.setWidth 16 := (BitVec.xor_right_inj _).mp (crcShifts_injective 8 h)
  simpa using congrArg (BitVec.setWidth 8) hwide

/-- The two bytes of a word do not overlap. -/
theorem le16_eq_xor (lo hi : Byte) : le16 lo hi = lo.setWidth 16 ^^^ (hi.setWidth 16 <<< 8) := by
  refine BitVec.eq_of_getLsbD_eq fun i _ => ?_
  rcases Nat.lt_or_ge i 8 with h | h
  · simp [le16, h]
  · simp [le16, h, Nat.not_lt.mpr h]

/-- A byte in the upper half of the register is moved down by the 8 shifts. -/
theorem crcShifts_eight_shiftLeft (b : Byte) : crcShifts 8 (b.setWidth 16 <<< 8) = b.setWidth 16 := by
  have hlow : ∀ i < 8, (b.setWidth 16 <<< 8).getLsbD i = false := fun i hi => by simp [hi]
  rw [crcShifts_eq_ushiftRight hlow]
  refine BitVec.eq_of_getLsbD_eq fun i hi => ?_
  rcases Nat.lt_or_ge i 8 with h | h
  · have hwide : 8 + i < 16 := by omega
    simp [hwide, hi]
  · simp [BitVec.getLsbD_of_ge b i h]

/-- A CRC pair is one 16-bit word, low byte first, exclusive-ored into the register before its 16 shifts. -/
theorem crcByte_crcByte (crc : Half) (lo hi : Byte) :
    crcByte (crcByte crc lo) hi = crcShifts 16 (crc ^^^ le16 lo hi) :=
  calc crcShifts 8 (crcShifts 8 (crc ^^^ lo.setWidth 16) ^^^ hi.setWidth 16)
    _ = crcShifts 8 (crcShifts 8 (crc ^^^ lo.setWidth 16 ^^^ (hi.setWidth 16 <<< 8))) := by
        rw [crcShifts_xor 8 (crc ^^^ lo.setWidth 16), crcShifts_eight_shiftLeft]
    _ = crcShifts 16 (crc ^^^ le16 lo hi) := by rw [← crcShifts_add, le16_eq_xor, BitVec.xor_assoc]

/-! ## A byte list -/

theorem crcDnp_inj {d d' : List Byte} : crcDnp d = crcDnp d' ↔ crcRegister d = crcRegister d' :=
  BitVec.xor_left_inj _

theorem crcDnp_zero_cons (bs : List Byte) : crcDnp (0x00#8 :: bs) = crcDnp bs := by
  rw [crcDnp_inj, crcRegister, List.foldl_cons, crcByte_zero, crcRegister]

theorem crcDnp_replicate_zero (n : Nat) : crcDnp (List.replicate n 0x00#8) = 0xFFFF#16 := by
  induction n with
  | zero => rfl
  | succ n ih => rw [List.replicate_succ, crcDnp_zero_cons, ih]

/-- The residue of R123, in both directions: 16 shifts take no register but 0xFFFF to 0x66C5. -/
theorem crcRegister_append_eq_residue_iff (d : List Byte) (lo hi : Byte) :
    crcRegister (d ++ [lo, hi]) = 0x66C5#16 ↔ le16 lo hi = crcDnp d := by
  have hpair : crcRegister (d ++ [lo, hi]) = crcShifts 16 (crcRegister d ^^^ le16 lo hi) := by
    rw [← crcByte_crcByte, crcRegister, List.foldl_append]
    rfl
  have hresidue : crcShifts 16 0xFFFF#16 = 0x66C5#16 := by simp [crcShifts, crcShift]
  rw [hpair, ← hresidue, (crcShifts_injective 16).eq_iff, crcDnp, ← BitVec.xor_right_inj (crcRegister d),
    ← BitVec.xor_assoc, BitVec.xor_self, BitVec.zero_xor]

/-! ## A changed byte (R124) -/

theorem foldl_crcByte_injective (bs : List Byte) : Injective (bs.foldl crcByte) := by
  induction bs with
  | nil => exact fun _ _ h => h
  | cons b bs ih => exact ih.comp (crcByte_left_injective b)

/-- Two lists that differ in one byte have different CRCs, whatever stands before and after it. -/
theorem crcDnp_ne_of_byte_ne {b c : Byte} (h : b ≠ c) (pre post : List Byte) :
    crcDnp (pre ++ b :: post) ≠ crcDnp (pre ++ c :: post) := by
  rw [Ne, crcDnp_inj, crcRegister, crcRegister, List.foldl_append, List.foldl_append]
  exact fun heq => h (crcByte_right_injective _ (foldl_crcByte_injective post heq))

theorem crcDnp_xorAt_ne {bs : List Byte} {i : Nat} {m : Byte} (hi : i < bs.length) (hm : m ≠ 0#8) :
    crcDnp (xorAt bs i m) ≠ crcDnp bs := by
  have hne : bs[i] ^^^ m ≠ bs[i] := by simpa using hm
  have hset : xorAt bs i m = bs.take i ++ (bs[i] ^^^ m) :: bs.drop (i + 1) := by
    simp [xorAt, List.set_eq_take_append_cons_drop, hi]
  have hsplit : bs = bs.take i ++ bs[i] :: bs.drop (i + 1) := by simp
  intro h
  rw [hset] at h
  exact crcDnp_ne_of_byte_ne hne _ _ (h.trans (congrArg crcDnp hsplit))

/-- The mask of a single bit is not zero. -/
theorem one_shiftLeft_ne_zero {j : Nat} (hj : j < 8) : 1#8 <<< j ≠ 0#8 := by
  intro h
  simpa [hj] using congrArg (·.getLsbD j) h

end Sys2Proof.Machine

section
open Sys2Proof Sys2Proof.Machine

/-- Settles O43: both forms fold the same byte step. -/
theorem crcTableFormIsEquivalent : Obligations.CrcTableFormIsEquivalent := by
  unfold Obligations.CrcTableFormIsEquivalent
  refine ⟨fun bs => ?_, by decide, by decide, by decide, by decide, by decide⟩
  rw [crcDnpByTable, crcByteByTable_eq_crcByte, crcDnp, crcRegister]

/-- Settles O44: a zero byte keeps the initial register 0, and the ranges that are checked have the length of their slice. -/
theorem crcOfLeadingZeros : Obligations.CrcOfLeadingZeros := by
  unfold Obligations.CrcOfLeadingZeros
  refine ⟨crcDnp_zero_cons, rfl, crcDnp_replicate_zero, fun hdr => Buffer.slice_length hdr 0 8, fun body udl k hk => ?_⟩
  rw [blockData, Buffer.slice_length]
  exact one_le_blockLen hk

/-- Settles O45: `crcRegister_append_eq_residue_iff`, and the final exclusive-or of the residue. -/
theorem crcResidueIsConstant : Obligations.CrcResidueIsConstant := by
  unfold Obligations.CrcResidueIsConstant
  intro d lo hi
  have hiff := crcRegister_append_eq_residue_iff d lo hi
  refine ⟨fun hcrc => ⟨hiff.mpr hcrc, ?_⟩, hiff.mp⟩
  rw [crcDnp, hiff.mpr hcrc]
  rfl

/-- Settles O46: the flipped byte differs, and neither its step nor the bytes after it bring two registers together. -/
theorem singleBitChangesAreDetected : Obligations.SingleBitChangesAreDetected := by
  unfold Obligations.SingleBitChangesAreDetected
  intro bs i j hi hj
  exact crcDnp_xorAt_ne hi (one_shiftLeft_ne_zero hj)

/-- Settles O42: the default algorithm run on each listed input. -/
theorem crcVectorsOfTheSpec : Obligations.CrcVectorsOfTheSpec := by
  unfold Obligations.CrcVectorsOfTheSpec
  simp [crcDnp, crcRegister, crcByte, crcShifts, crcShift, List.range_succ]

end

/-! # The abstract step and its fold

What a step emits, said once (45_stream R126, R127), and that decoding may be cut anywhere (R129, R130). With these O27, O28, O29 and
O35 are settled. -/

namespace Sys2Proof.Machine

/-- The events an operation emits: one for each of the five completing operations (R127). -/
def eventCount (i : Instr) : Nat :=
  match i with
  | .hdrBadLength _ | .hdrBadCrc _ | .hdrFrameEmpty _ | .bodyBadCrc _ | .bodyFrame _ => 1
  | _ => 0

/-- What a step of byte `b` from `p` leaves and emits: nothing, or the one event of the completing operation that the byte is. -/
inductive Parser.Emits (cfg : Config) (p : Parser) (b : Byte) : Parser → List Event → Prop where
  | silent {q : Parser} (count : eventCount (p.fetch cfg b) = 0) : Parser.Emits cfg p b q []
  | badLength (fetch : p.fetch cfg b = .hdrBadLength b) :
      Parser.Emits cfg p b (p.headerDone b) [.error (.badLength (lengthByte (p.headerDone b).hdr))]
  | badHeaderCrc (fetch : p.fetch cfg b = .hdrBadCrc b) :
      Parser.Emits cfg p b (p.headerDone b) [.error .badHeaderCrc]
  | emptyFrame (fetch : p.fetch cfg b = .hdrFrameEmpty b) (length : (lengthByte (p.headerDone b).hdr).toNat = 5) :
      Parser.Emits cfg p b (p.headerDone b) [.frame (headerOf cfg (p.headerDone b).hdr) []]
  | badBodyCrc {r : Nat} (fetch : p.fetch cfg b = .bodyBadCrc b) :
      Parser.Emits cfg p b (p.bodyDone r b) [.error .badBodyCrc]
  | frame {r rem udl : Nat} (phase : p.phase = .accumulatingBody r rem udl) (fetch : p.fetch cfg b = .bodyFrame b) :
      Parser.Emits cfg p b (p.bodyDone r b) [.frame (headerOf cfg p.hdr) (payload (p.bodyDone r b).body udl)]

section
variable {cfg : Config} {p q : Parser} {b : Byte} {evs : List Event}

/-- A step in a body phase has counters inside the buffer. -/
theorem Parser.inside_of_step_body {r rem udl : Nat} (h : p.phase = .accumulatingBody r rem udl)
    (hs : p.step cfg b = .next (q, evs)) : r < 282 ∧ (rem > 1 ∨ bodySize udl ≤ 282) := by
  by_contra hout
  have hfault : p.step cfg b = .fault .outsideBuffer := by
    by_cases hrem : rem > 1
    · simp only [Parser.step, h, if_pos hrem]
      exact Parser.bodyAcc_outside h hrem (by omega)
    · have hend (k : Nat → Parser → Parser × List Event) : p.bodyEnd b k = .fault .outsideBuffer :=
        Parser.bodyEnd_outside h (by omega) (by omega)
      simp only [Parser.step, h, if_neg hrem, Parser.completeBody, Parser.bodyFrame, Parser.bodyBadCrc, hend, ite_self]
  cases hfault.symm.trans hs

/-- The byte that completes a header, end by end (R96). -/
theorem Parser.emits_of_step_hdrEnd {n : Nat} (h : p.phase = .accumulatingHeader n) (hn : ¬n + 1 < 10)
    (hs : p.step cfg b = .next (q, evs)) : Parser.Emits cfg p b q evs := by
  have hfetch := Parser.fetch_headerEnd (cfg := cfg) (b := b) h hn
  rw [Parser.step_hdrEnd cfg b h hn] at hs
  dsimp only at hs
  split_ifs at hs hfetch with hlen hcrc hfive <;> cases hs
  · exact .badLength hfetch
  · exact .badHeaderCrc hfetch
  · exact .emptyFrame hfetch hfive
  · exact .silent (congrArg eventCount hfetch)

/-- A body byte: one that completes the body emits the event of its end, whichever it is (R107, R109). -/
theorem Parser.emits_of_step_body {r rem udl : Nat} (h : p.phase = .accumulatingBody r rem udl)
    (hs : p.step cfg b = .next (q, evs)) : Parser.Emits cfg p b q evs := by
  obtain ⟨hr, hsize⟩ := Parser.inside_of_step_body h hs
  by_cases hrem : rem > 1
  · cases (Parser.step_bodyAcc cfg b h hrem hr).symm.trans hs
    exact .silent (congrArg eventCount (Parser.fetch_body h hrem))
  · have hfetch := Parser.fetch_bodyEnd (cfg := cfg) (b := b) h hrem
    cases (Parser.step_bodyEnd cfg b h hrem hr (hsize.resolve_left hrem)).symm.trans hs
    dsimp only
    split_ifs at hfetch ⊢
    · exact .frame h hfetch
    · exact .badBodyCrc hfetch

/-- What a step emits, phase by phase. -/
theorem Parser.emits_of_step (hs : p.step cfg b = .next (q, evs)) : Parser.Emits cfg p b q evs := by
  cases h : p.phase with
  | awaitingSync1 =>
    have hfetch := Parser.fetch_sync1 (cfg := cfg) (b := b) h
    by_cases hb : b = SYNC1
    · subst hb
      cases (Parser.step_sync1Hit cfg h).symm.trans hs
      exact .silent (congrArg eventCount (hfetch.trans (if_pos rfl)))
    · cases (Parser.step_sync1Skip cfg h hb).symm.trans hs
      exact .silent (congrArg eventCount (hfetch.trans (if_neg hb)))
  | awaitingSync2 =>
    have hfetch := Parser.fetch_sync2 (cfg := cfg) (b := b) h
    by_cases hb : b = SYNC2
    · subst hb
      cases (Parser.step_sync2Hit cfg h).symm.trans hs
      exact .silent (congrArg eventCount (hfetch.trans (if_pos rfl)))
    · cases (Parser.step_sync2Miss cfg h hb).symm.trans hs
      exact .silent (congrArg eventCount (hfetch.trans (if_neg hb)))
  | accumulatingHeader n =>
    by_cases hn : n + 1 < 10
    · cases (Parser.step_hdrAcc cfg b h hn).symm.trans hs
      exact .silent (congrArg eventCount (Parser.fetch_header h hn))
    · exact Parser.emits_of_step_hdrEnd h hn hs
  | accumulatingBody r rem udl => exact Parser.emits_of_step_body h hs

theorem Parser.Emits.length_eq (h : Parser.Emits cfg p b q evs) : evs.length = eventCount (p.fetch cfg b) := by
  cases h with
  | silent hcount => exact hcount.symm
  | badLength hfetch | badHeaderCrc hfetch | emptyFrame hfetch _ | badBodyCrc hfetch | frame _ hfetch =>
    exact (congrArg eventCount hfetch).symm

theorem Parser.Emits.hunting (h : Parser.Emits cfg p b q evs) (hne : evs ≠ []) : q.phase = .awaitingSync1 := by
  cases h with
  | silent _ => exact absurd rfl hne
  | badLength _ | badHeaderCrc _ | emptyFrame _ _ | badBodyCrc _ | frame _ _ => rfl

end

theorem andThen_assoc {σ τ υ φ ρ : Type} (o : Host.Outcome σ φ ρ) (f : σ → Host.Outcome τ φ ρ)
    (g : τ → Host.Outcome υ φ ρ) : andThen (andThen o f) g = andThen o fun s => andThen (f s) g := by
  cases o <;> rfl

/-- Decoding is cut anywhere, also where a step stops (R130). -/
theorem Parser.decode_append_eq (cfg : Config) (p : Parser) (xs ys : List Byte) :
    Parser.decode cfg p (xs ++ ys) =
      andThen (Parser.decode cfg p xs) fun r1 =>
        andThen (Parser.decode cfg r1.1 ys) fun r2 => .next (r2.1, r1.2 ++ r2.2) := by
  induction xs generalizing p with
  | nil =>
    rw [List.nil_append, Parser.decode, andThen_next]
    cases Parser.decode cfg p ys <;> rfl
  | cons x xs ih => simp only [List.cons_append, Parser.decode, ih, andThen_assoc, andThen_next, List.append_assoc]

end Sys2Proof.Machine

section
open Sys2Proof Sys2Proof.Machine

/-- Settles O27: `execWith_fetch`, phase by phase. -/
theorem execOfTheFetchedByteIsTheNormativeStep : Obligations.ExecOfTheFetchedByteIsTheNormativeStep := by
  unfold Obligations.ExecOfTheFetchedByteIsTheNormativeStep
  exact fun cfg s b => execWith_fetch cfg b s

/-- Settles O28: `Parser.emits_of_step` says what a step emits, and `eventCount` counts it. -/
theorem onlyCompletingOperationsEmit : Obligations.OnlyCompletingOperationsEmit := by
  unfold Obligations.OnlyCompletingOperationsEmit
  intro cfg p q b evs hs
  exact (Parser.emits_of_step hs).length_eq

/-- Settles O29: every event of `Parser.emits_of_step` ends a header or a body. -/
theorem everyEventReturnsToTheHunt : Obligations.EveryEventReturnsToTheHunt := by
  unfold Obligations.EveryEventReturnsToTheHunt
  exact fun cfg p q b evs hs hne => (Parser.emits_of_step hs).hunting hne

/-- Settles O35: `Parser.decode_append_eq`, by induction on the first chunk. -/
theorem chunkingChangesNothing : Obligations.ChunkingChangesNothing := by
  unfold Obligations.ChunkingChangesNothing
  exact fun cfg p xs ys => ⟨rfl, Parser.decode_append_eq cfg p xs ys⟩

end

/-! # A pending event

The outputs while an event is pending (R135, R137), the payload port at every read latency (R138), and the cycles over which the event
is held (R136). With these O51, O52, O53 and O60 are settled. -/

namespace Sys2Proof.Machine

/-! ## An edge with an event pending -/

section
variable (cfg : Config) (s : State)

/-- The machine within a cycle that has an event pending: its pins are consumed and its outputs driven, by the control-byte class of
`hdr[3]` and from the event register and the buffers (R73, R135, R137). -/
def State.shown : State :=
  State.driveEvent cfg s.nextPins.plAddr
    { s.tick with ports := showControl (decodeControl cfg (ctrlByte s.parser.hdr)) s.ports }

@[simp] theorem State.shown_parser : (s.shown cfg).parser = s.parser := rfl
@[simp] theorem State.shown_evtValid : (s.shown cfg).evtValid = s.evtValid := rfl
@[simp] theorem State.shown_evtKind : (s.shown cfg).evtKind = s.evtKind := rfl
@[simp] theorem State.shown_evtWait : (s.shown cfg).evtWait = s.evtWait := rfl
@[simp] theorem State.shown_plPipe : (s.shown cfg).plPipe = s.plPipe := rfl
@[simp] theorem State.shown_pins : (s.shown cfg).pins = s.pins.tail := rfl
@[simp] theorem State.shown_stream : (s.shown cfg).stream = s.stream := rfl
@[simp] theorem State.shown_events : (s.shown cfg).events = s.events := rfl
@[simp] theorem State.shown_released : (s.shown cfg).released = s.released := rfl

end

section
variable {cfg : Config} {s t : State}

/-- The tag of a function tells its membership in `NAMED_FUNCTIONS` (R72, R75). -/
@[simp] theorem function_isNamed (cfg : Config) (fn : Byte) : (cfg.function fn).isNamed = cfg.isNamed fn := by
  unfold Config.function
  split_ifs with hn <;> simp [LinkFunction.isNamed, hn]

/-- The consumer's edge ends the cycle in which the event is shown (R136). -/
theorem stepWith_pending (hr : s.nextPins.rst = false) (hv : s.evtValid = true) :
    stepWith cfg s = .next ((s.shown cfg).consumerEdge cfg s.nextPins) := by
  rw [stepWith, State.cycle_pending hr hv, Parser.fetchControl, execWith_decode_control, andThen_next]
  rfl

theorem step_pending (hr : s.nextPins.rst = false) (hv : s.evtValid = true) :
    step s = .next ((s.shown Config.standard).consumerEdge Config.standard s.nextPins) := by
  rw [← stepWith_standard, stepWith_pending hr hv]

/-! ## The payload port (R138) -/

theorem State.payloadAt_eq_some {a : Byte} (hv : s.evtValid = true) (hkind : s.evtKind = 0#2)
    (ha : a.toNat < s.plLen.toNat) : s.payloadAt a = some (s.parser.body.read (payloadIndex a.toNat)) := by
  rw [State.payloadAt, if_pos ⟨hv, hkind, ha⟩]

theorem State.plLen_of_frame (hkind : s.evtKind = 0#2) : s.plLen = s.parser.hdr.read 2 - 5#8 := if_pos hkind

theorem State.driveEvent_ports_plData {addr v : Byte} (h : s.plAnswer cfg addr = some v) :
    (s.driveEvent cfg addr).ports.plData = v := by
  simp only [State.driveEvent, h]

/-- The port answers the address `a` of `PL_READ_LATENCY` cycles ago with the payload byte there, below `pl_len`. -/
theorem State.shown_ports_plData {a : Byte} (hv : s.evtValid = true) (hkind : s.evtKind = 0#2)
    (hans : (s.nextPins.plAddr :: s.plPipe)[cfg.plReadLatency]? = some a)
    (ha : a.toNat < (s.parser.hdr.read 2 - 5#8).toNat) :
    (s.shown cfg).ports.plData = s.parser.body.read (payloadIndex a.toNat) := by
  rw [← State.plLen_of_frame hkind] at ha
  refine State.driveEvent_ports_plData ?_
  simp only [State.plAnswer, State.tick_plPipe, hans]
  exact State.payloadAt_eq_some hv hkind ha

/-! ## Cycles in which a pending event is held -/

/-- At `t` the event pending at `s` has been held over the cycles with the pins `l`, and the payload pipeline has taken in their
addresses (R136, R138). -/
structure State.HeldOver (cfg : Config) (l : List Pins) (s t : State) : Prop where
  pins     : s.pins = l ++ t.pins
  evtValid : t.evtValid = true
  evtKind  : t.evtKind = s.evtKind
  parser   : t.parser = s.parser
  events   : t.events = s.events
  plPipe   : t.plPipe.take cfg.plReadLatency =
    ((l.map Pins.plAddr).reverse ++ s.plPipe).take cfg.plReadLatency

theorem take_cons_of_take {α : Type} {n : Nat} {xs ys : List α} (h : xs.take n = ys.take n) (a : α) :
    (a :: xs).take n = (a :: ys).take n := by
  cases n with
  | zero => rfl
  | succ n =>
    have hn : xs.take n = ys.take n := by simpa [List.take_take] using congrArg (List.take n) h
    rw [List.take_succ_cons, List.take_succ_cons, hn]

theorem State.nextPins_of_cons {p : Pins} {ps : List Pins} (h : s.pins = p :: ps) : s.nextPins = p := by
  rw [State.nextPins, h]

/-- The addresses the port has at its input after the cycles `l`, in the cycle with the pins `q`, as far as the latency reaches. -/
theorem State.HeldOver.take_addresses {l : List Pins} (h : State.HeldOver cfg l s t) (q : Pins) :
    (q.plAddr :: t.plPipe).take cfg.plReadLatency =
      (((l ++ [q]).map Pins.plAddr).reverse ++ s.plPipe).take cfg.plReadLatency := by
  rw [take_cons_of_take h.plPipe, List.map_append, List.reverse_append]
  rfl

/-- One more cycle without an acknowledge. -/
theorem State.HeldOver.edge {l : List Pins} {q : Pins} {rest : List Pins} (h : State.HeldOver cfg l s t)
    (hq : t.pins = q :: rest) (ha : q.evtAck = false) :
    State.HeldOver cfg (l ++ [q]) s ((t.shown cfg).consumerEdge cfg q) ∧
      ((t.shown cfg).consumerEdge cfg q).plPipe =
        (((l ++ [q]).map Pins.plAddr).reverse ++ s.plPipe).take cfg.plReadLatency := by
  rw [State.consumerEdge_hold _ _ _ ha, ← h.take_addresses q]
  refine ⟨⟨?_, h.evtValid, h.evtKind, h.parser, h.events, ?_⟩, rfl⟩
  · simp [h.pins, hq]
  · rw [← h.take_addresses q, List.take_take, Nat.min_self]
    rfl

/-- The cycle after those that hold the event. -/
theorem State.HeldOver.run_edge {l rest : List Pins} {q : Pins} (h : State.HeldOver cfg l s t)
    (hrun : runWith cfg l.length s = .next t) (hq : t.pins = q :: rest) (hr : q.rst = false) :
    runWith cfg (l.length + 1) s = .next ((t.shown cfg).consumerEdge cfg q) := by
  have hnext := State.nextPins_of_cons hq
  rw [← hnext] at hr
  rw [runWith_add, hrun, andThen_next, runWith_succ, stepWith_pending hr h.evtValid, andThen_next, hnext, runWith_zero]

theorem State.HeldOver.pins_eq {l rest : List Pins} (h : State.HeldOver cfg l s t) (hs : s.pins = l ++ rest) :
    t.pins = rest :=
  List.append_cancel_left (h.pins.symm.trans hs)

/-- The event is held over any cycles without reset and acknowledge. -/
theorem State.exists_heldOver (cfg : Config) (hv : s.evtValid = true) (l : List Pins) {rest : List Pins}
    (hpins : s.pins = l ++ rest) (hl : ∀ x ∈ l, x.rst = false ∧ x.evtAck = false) :
    ∃ t, runWith cfg l.length s = .next t ∧ State.HeldOver cfg l s t := by
  induction l using List.reverseRecOn generalizing rest with
  | nil => exact ⟨s, rfl, rfl, hv, rfl, rfl, rfl, rfl⟩
  | append_singleton l q ih =>
    rw [List.append_assoc] at hpins
    obtain ⟨t, hrun, ht⟩ := ih hpins fun x hx => hl x (List.mem_append_left _ hx)
    obtain ⟨hr, ha⟩ := hl q (by simp)
    have hq : t.pins = q :: rest := ht.pins_eq hpins
    rw [List.length_append]
    exact ⟨_, ht.run_edge hrun hq hr, (ht.edge hq ha).1⟩

/-- The event is held over all but the last of some cycles without reset, and the last may acknowledge it. -/
theorem State.exists_heldOver_dropLast (cfg : Config) (hv : s.evtValid = true) {l rest : List Pins} (hne : l ≠ [])
    (hpins : s.pins = l ++ rest) (hr : ∀ x ∈ l, x.rst = false) (ha : ∀ x ∈ l.dropLast, x.evtAck = false) :
    ∃ t q, l.dropLast ++ [q] = l ∧ State.HeldOver cfg l.dropLast s t ∧ t.pins = q :: rest ∧
      runWith cfg l.length s = .next ((t.shown cfg).consumerEdge cfg q) := by
  have hsplit := List.dropLast_concat_getLast hne
  have hlen : l.length = l.dropLast.length + 1 := by simpa using (congrArg List.length hsplit).symm
  rw [← hsplit, List.append_assoc] at hpins
  obtain ⟨t, hrun, ht⟩ := State.exists_heldOver cfg hv l.dropLast hpins fun x hx =>
    ⟨hr x (List.mem_of_mem_dropLast hx), ha x hx⟩
  have hq := ht.pins_eq hpins
  rw [hlen]
  exact ⟨t, l.getLast hne, hsplit, ht, hq, ht.run_edge hrun hq (hr _ (List.getLast_mem hne))⟩

/-- After as many cycles as the read latency the oldest address at the port is that of the first of them, the present one included. -/
theorem State.HeldOver.oldest_address {l : List Pins} {p q : Pins} {ps : List Pins} (h : State.HeldOver cfg l s t)
    (hl : l.length = cfg.plReadLatency) (hp : l ++ [q] = p :: ps) :
    (q.plAddr :: t.plPipe)[cfg.plReadLatency]? = some p.plAddr := by
  have hpipe := h.plPipe
  rw [← hl] at hpipe ⊢
  cases l with
  | nil =>
    cases hp
    rfl
  | cons p' l =>
    obtain ⟨rfl, -⟩ := List.cons.inj hp
    rw [List.length_cons, List.getElem?_cons_succ, ← List.getElem?_take_of_lt (Nat.lt_add_one l.length)]
    rw [List.length_cons] at hpipe
    rw [hpipe]
    simp

end

end Sys2Proof.Machine

section
open Sys2Proof Sys2Proof.Machine

/-- Settles O51: without an acknowledge the consumer's edge moves the payload pipeline only. -/
theorem pendingEventIsHeldUntilAcknowledged : Obligations.PendingEventIsHeldUntilAcknowledged := by
  unfold Obligations.PendingEventIsHeldUntilAcknowledged
  intro s hr hv ha
  rw [step_pending hr hv, State.consumerEdge_hold _ _ _ ha]
  exact ⟨_, rfl, rfl, rfl, rfl, hv, rfl, rfl, rfl, rfl, rfl, rfl⟩

/-- Settles O52: the consumer's edge leaves the outputs, which `State.shown` drives. -/
theorem eventOutputsAreWiresFromTheBuffers : Obligations.EventOutputsAreWiresFromTheBuffers := by
  unfold Obligations.EventOutputsAreWiresFromTheBuffers
  intro s hr hv
  refine ⟨_, step_pending hr hv, ?_⟩
  rw [State.consumerEdge_ports]
  have hknown : (s.shown Config.standard).ports.hdrFuncKnown =
      Config.standard.isNamed (s.parser.hdr.read 3 &&& 0x4F#8) := function_isNamed _ _
  refine ⟨rfl, rfl, rfl, rfl, rfl, function_value _ _, ?_, rfl, rfl, rfl, rfl, rfl, rfl⟩
  rw [hknown]
  exact List.contains_iff_mem

/-- Settles O53: at latency 0 the port answers the address of the cycle itself. -/
theorem payloadPortReadsTheFrame : Obligations.PayloadPortReadsTheFrame := by
  unfold Obligations.PayloadPortReadsTheFrame
  intro s hr hv hkind haddr
  refine ⟨_, step_pending hr hv, ?_, by simp, by simp, fun ha => ?_, fun ha => ?_⟩
  · rw [State.consumerEdge_ports]
    exact State.shown_ports_plData hv hkind rfl haddr
  · rw [State.consumerEdge_hold _ _ _ ha]
    exact ⟨hv, rfl, rfl⟩
  · rw [State.consumerEdge_ack _ _ _ ha]
    rfl

/-- Settles O60: the event is held over all cycles but the last, and the last shows it or holds it too. -/
theorem payloadPortAnswersAfterTheReadLatency : Obligations.PayloadPortAnswersAfterTheReadLatency := by
  unfold Obligations.PayloadPortAnswersAfterTheReadLatency
  refine ⟨fun cfg s p ps rest hpins hlat hr ha hv hkind haddr => ?_, fun cfg s p ps rest hpins hl hv => ?_⟩
  · obtain ⟨t, q, hsplit, ht, hq, hrun⟩ :=
      State.exists_heldOver_dropLast cfg hv (List.cons_ne_nil p ps) hpins hr ha
    have hans : (t.nextPins.plAddr :: t.plPipe)[cfg.plReadLatency]? = some p.plAddr := by
      rw [State.nextPins_of_cons hq]
      exact ht.oldest_address (by simpa using hlat) hsplit
    rw [← ht.parser] at haddr ⊢
    rw [← ht.events]
    refine ⟨_, hrun, ?_, ?_, State.consumerEdge_parser _ _ _, State.consumerEdge_events _ _ _⟩
    all_goals rw [State.consumerEdge_ports]
    · rfl
    · exact State.shown_ports_plData ht.evtValid (ht.evtKind.trans hkind) hans haddr
  · obtain ⟨t, q, hsplit, ht, hq, hrun⟩ := State.exists_heldOver_dropLast cfg hv (List.cons_ne_nil p ps) hpins
      (fun x hx => (hl x hx).1) (fun x hx => (hl x (List.mem_of_mem_dropLast hx)).2)
    have ha : q.evtAck = false := (hl q (hsplit ▸ List.mem_append_right _ (List.mem_singleton_self q))).2
    obtain ⟨hheld, hpipe⟩ := ht.edge hq ha
    exact ⟨_, hrun, hheld.evtValid, hsplit ▸ hpipe⟩

end

/-! # The other edges

Reset, an accepted byte, and cycles without a byte (R132, R136, R157). With these O5, O7, O8 and O55 are settled. -/

namespace Sys2Proof.Machine

section
variable {cfg : Config} {s t : State}

/-- What holds of idle pins and of all scheduled pins holds of the next ones. -/
theorem State.nextPins_of_forall {P : Pins → Prop} (hidle : P Pins.idle) (h : ∀ p ∈ s.pins, P p) : P s.nextPins := by
  cases hp : s.pins with
  | nil =>
    rw [State.nextPins, hp]
    exact hidle
  | cons p ps =>
    rw [State.nextPins_of_cons hp]
    exact h p (by simp [hp])

/-- An edge that neither resets nor offers a byte keeps the abstract state and what has been accepted and emitted, an event pending
or due or neither (R132). -/
theorem stepWith_without_byte (cfg : Config) (hr : s.nextPins.rst = false) (hin : s.nextPins.inValid = false) :
    ∃ t, stepWith cfg s = .next t ∧ t.parser = s.parser ∧ t.stream = s.stream ∧ t.events = s.events ∧
      t.pins = s.pins.tail := by
  cases hv : s.evtValid with
  | true => exact ⟨_, stepWith_pending hr hv, by simp, by simp, by simp, by simp⟩
  | false =>
  by_cases hw : s.evtWait = 0
  · exact ⟨_, State.cycle_hold hr hv hw hin, rfl, rfl, rfl, rfl⟩
  · exact ⟨_, State.cycle_waiting hr hv hw, rfl, rfl, rfl, rfl⟩

/-- Only the case of a pending event reads `evt_ack`; the cases that are left do not (R136). -/
theorem step_ignores_evtAck (hv : s.evtValid = false) (p : Pins) (rest : List Pins) (a : Bool) :
    step { s with pins := { p with evtAck := a } :: rest } = step { s with pins := p :: rest } := by
  simp only [step, State.cycle, hv, Bool.false_eq_true, if_false]
  rfl

end

end Sys2Proof.Machine

section
open Sys2Proof Sys2Proof.Machine

/-- Settles O5: the accepting case of the edge. -/
theorem stepRunsTheAcceptedByte : Obligations.StepRunsTheAcceptedByte := by
  unfold Obligations.StepRunsTheAcceptedByte
  rintro s i hr hv hw hin rfl
  exact State.cycle_accept hr hv hw hin

/-- Settles O7, by induction on the cycles. -/
theorem pausesChangeNoState : Obligations.PausesChangeNoState := by
  unfold Obligations.PausesChangeNoState
  intro cfg k s hpins
  induction k generalizing s with
  | zero => exact ⟨s, rfl, rfl, rfl, rfl⟩
  | succ k ih =>
    obtain ⟨hin, hr⟩ := State.nextPins_of_forall (P := fun p => p.inValid = false ∧ p.rst = false) ⟨rfl, rfl⟩ hpins
    obtain ⟨t, hstep, hparser, hstream, hevents, htail⟩ := stepWith_without_byte cfg hr hin
    obtain ⟨u, hrun, huparser, hustream, huevents⟩ := ih t fun p hp => hpins p (List.mem_of_mem_tail (htail ▸ hp))
    rw [runWith_succ, hstep, andThen_next]
    exact ⟨u, hrun, huparser.trans hparser, hustream.trans hstream, huevents.trans hevents⟩

/-- Settles O8: the reset case of the edge, which goes before all others. -/
theorem resetEdgeRestoresTheResetState : Obligations.ResetEdgeRestoresTheResetState := by
  unfold Obligations.ResetEdgeRestoresTheResetState
  intro s hr
  exact ⟨_, State.cycle_reset hr, rfl, rfl, rfl, rfl, rfl, rfl, rfl, rfl, rfl, rfl⟩

/-- Settles O55: no case of the edge but that of a pending event reads `evt_ack`. -/
theorem acknowledgeWithoutEventHasNoEffect : Obligations.AcknowledgeWithoutEventHasNoEffect := by
  unfold Obligations.AcknowledgeWithoutEventHasNoEffect
  refine ⟨fun s p rest a b hv => ?_, fun s hr hv hw hin => ?_⟩
  · exact (step_ignores_evtAck hv p rest a).trans (step_ignores_evtAck hv p rest b).symm
  · exact ⟨_, State.cycle_hold hr hv hw hin, rfl, rfl, rfl, hv, rfl, hw, rfl, rfl, rfl, rfl⟩

end

/-! # The refinement of the abstract model

The consumer reads at the ports the event the abstract step emitted, and every edge keeps the agreement of the machine with the fold of
the abstract step (R139). With these O34 and O54 are settled. -/

namespace Sys2Proof.Machine

section
variable {cfg : Config} {s t : State}

/-! ## The event at the ports (R139) -/

/-- The two function outputs say all of a function. -/
theorem LinkFunction.eq_of_outputs (f : LinkFunction) :
    (if f.isNamed then .named f.value else .unknown f.value) = f := by
  cases f <;> rfl

/-- `pl_len` of a frame is its user data length (R56, R135). -/
theorem State.plLen_toNat (hkind : s.evtKind = 0#2) (hlen : 5 ≤ (lengthByte s.parser.hdr).toNat) :
    s.plLen.toNat = userDataLength s.parser.hdr := by
  have hlt := (lengthByte s.parser.hdr).isLt
  rw [State.plLen_of_frame hkind, userDataLength, MIN_LEN]
  unfold lengthByte at *
  bv_omega

/-- Read address by address, the payload port gives the payload (R138). -/
theorem State.portPayload_eq (hv : s.evtValid = true) (hkind : s.evtKind = 0#2)
    (hlen : 5 ≤ (lengthByte s.parser.hdr).toNat) :
    s.portPayload = payload s.parser.body (userDataLength s.parser.hdr) := by
  rw [State.portPayload, payload, ← State.plLen_toNat hkind hlen, ← List.filterMap_eq_map]
  refine List.filterMap_congr fun i hi => ?_
  have hi : i < s.plLen.toNat := List.mem_range.mp hi
  have hmod : (BitVec.ofNat 8 i).toNat = i := Nat.mod_eq_of_lt (hi.trans s.plLen.isLt)
  rw [State.payloadAt_eq_some hv hkind (by rwa [hmod]), hmod, Function.comp_apply]

/-- What the consumer reads at the ports is the event the register and the buffers stand for (R137, R139, R142). -/
theorem State.Inv.eventAtPorts_shown (h : s.Inv cfg) (hv : s.evtValid = true) :
    eventAtPorts (s.shown cfg).ports (s.shown cfg).portPayload = s.pendingEvent cfg := by
  have hkind := h.kindLen (State.busy_iff.mpr (.inl hv))
  by_cases h0 : s.evtKind = 0#2
  · have hlen : 5 ≤ (lengthByte s.parser.hdr).toNat := by
      rw [h0] at hkind
      exact Nat.not_lt.mp fun hlt => absurd (hkind.mpr hlt) (by decide)
    have hpl : (s.shown cfg).portPayload = payload s.parser.body (userDataLength s.parser.hdr) :=
      State.portPayload_eq hv h0 hlen
    have hfun := LinkFunction.eq_of_outputs (decodeControl cfg (ctrlByte s.parser.hdr)).function
    rw [State.pendingEvent, if_pos h0, hpl]
    simp [eventAtPorts, State.shown, h0, hfun, headerOf]
  · rw [State.pendingEvent, if_neg h0]
    exact if_neg h0

/-! ## The refinement (R139) -/

theorem State.outstanding_of_busy (h : s.busy = true) : s.outstanding cfg = [s.pendingEvent cfg] := if_pos h

theorem State.outstanding_of_idle (hv : s.evtValid = false) (hw : s.evtWait = 0) : s.outstanding cfg = [] :=
  if_neg (by simp [State.busy, hv, hw])

theorem State.Refines.of_idle (hd : Parser.decode cfg Parser.reset t.stream = .next (t.parser, t.events))
    (hv : t.evtValid = false) (hw : t.evtWait = 0) (hrel : t.events = t.released) : t.Refines cfg :=
  ⟨hd, by rw [State.outstanding_of_idle hv hw, List.append_nil, hrel]⟩

theorem State.Refines.of_busy (hd : Parser.decode cfg Parser.reset t.stream = .next (t.parser, t.events))
    (hbusy : t.busy = true) (hrel : t.events = t.released ++ [t.pendingEvent cfg]) : t.Refines cfg :=
  ⟨hd, by rw [State.outstanding_of_busy hbusy, hrel]⟩

theorem State.Refines.events_of_idle (h : s.Refines cfg) (hv : s.evtValid = false) (hw : s.evtWait = 0) :
    s.events = s.released := by
  rw [h.released, State.outstanding_of_idle hv hw, List.append_nil]

theorem State.Refines.events_of_busy (h : s.Refines cfg) (hbusy : s.busy = true) :
    s.events = s.released ++ [s.pendingEvent cfg] := by
  rw [h.released, State.outstanding_of_busy hbusy]

/-- The event a step emits is the one its kind and the buffers it leaves stand for: an empty frame has length byte 5, and the length
byte of a frame with a body is that of its validated header (R29, R137). -/
theorem Parser.Inv.pendingEvent_of_step {p q : Parser} {b : Byte} {e : Event} (h : p.Inv cfg)
    (hs : p.step cfg b = .next (q, [e])) (s : State) :
    (State.raise cfg { s with parser := q } e).pendingEvent cfg = e := by
  cases Parser.emits_of_step hs with
  | badLength _ | badHeaderCrc _ | badBodyCrc _ => rfl
  | emptyFrame _ hlen =>
    have hudl : userDataLength (p.headerDone b).hdr = 0 := by rw [userDataLength, hlen, MIN_LEN, Nat.sub_self]
    simp [State.pendingEvent, Event.kind, hudl, payload]
  | @frame r rem udl hphase _ =>
    obtain ⟨phase, hdr, body⟩ := p
    cases hphase
    obtain ⟨_, _, _, _, hlen, _⟩ := Parser.inv_accumulatingBody.mp h
    have hudl : userDataLength hdr = udl := by rw [userDataLength, hlen, Nat.add_sub_cancel]
    simp [State.pendingEvent, Event.kind, Parser.bodyDone, hudl]

/-- A posted event is pending or due. -/
theorem State.busy_raise (e : Event) : (s.raise cfg e).busy = true := by
  rw [State.busy_iff, State.raise_evtValid, State.raise_evtWait, decide_eq_true_iff]
  omega

/-- A waiting edge leaves the due event outstanding (R136). -/
theorem State.Refines.waiting_edge (h : s.Refines cfg) (hw : s.evtWait ≠ 0) :
    (s.tick.quiet false).latencyEdge.Refines cfg := by
  refine .of_busy h.abstract ?_ (h.events_of_busy (State.busy_iff.mpr (.inr hw)))
  rw [State.busy_iff, State.latencyEdge_evtValid, State.latencyEdge_evtWait, decide_eq_true_iff, State.quiet_evtWait,
    State.tick_evtWait]
  omega

/-- An acknowledge releases the event that is pending: it is the one at the ports (R139, R148). -/
theorem State.Inv.released_shown (h : s.Inv cfg) (hv : s.evtValid = true) :
    (s.shown cfg).release.released = s.released ++ [s.pendingEvent cfg] := by
  rw [State.release_released, h.eventAtPorts_shown hv, State.shown_released]

/-- An edge with an event pending moves it to the released events or leaves it outstanding. -/
theorem State.Refines.consumer_edge (h : s.Refines cfg) (hi : s.Inv cfg) (hv : s.evtValid = true) (pin : Pins) :
    ((s.shown cfg).consumerEdge cfg pin).Refines cfg := by
  have hev := h.events_of_busy (State.busy_iff.mpr (.inl hv))
  cases ha : pin.evtAck with
  | true =>
    rw [State.consumerEdge_ack _ _ _ ha]
    exact .of_idle h.abstract rfl (hi.oneEvent hv) (hev.trans (hi.released_shown hv).symm)
  | false =>
    rw [State.consumerEdge_hold _ _ _ ha]
    exact .of_busy h.abstract (State.busy_iff.mpr (.inl hv)) hev

/-- An accepted byte extends the decoded stream by its step, and an event of it becomes the outstanding one (R129, R136). -/
theorem State.Refines.accept (h : s.Refines cfg) (hi : s.Inv cfg) (hv : s.evtValid = false) (hw : s.evtWait = 0)
    {b : Byte} (ht : ((s.tick.quiet true).accept b).commit cfg (s.parser.step cfg b) = .next t) : t.Refines cfg := by
  have hrel : s.events = s.released := h.events_of_idle hv hw
  obtain ⟨q, evs, hstep, hl⟩ := hi.parser.accepts b
  have hdec := Parser.decode_append h.abstract (Parser.decode_singleton hstep)
  rw [hstep] at ht
  cases hl with
  | silent =>
    cases ht
    exact .of_idle (by rwa [List.append_nil] at hdec) hv hw hrel
  | @event e =>
    cases ht
    refine .of_busy hdec (State.busy_raise e) ?_
    rw [List.foldl_cons, List.foldl_nil, hi.parser.pendingEvent_of_step hstep]
    exact congrArg (· ++ [e]) hrel

/-- A byte offered while no event is pending or due is accepted in that cycle (R136). -/
theorem stepWith_accept_next (h : s.parser.Inv cfg) (hr : s.nextPins.rst = false) (hv : s.evtValid = false)
    (hw : s.evtWait = 0) (hin : s.nextPins.inValid = true) :
    ∃ u, stepWith cfg s = .next u ∧ u.stream = s.stream ++ [s.nextPins.inData] ∧ u.ports.inReady = true := by
  obtain ⟨q, evs, hstep, hl⟩ := h.accepts s.nextPins.inData
  rw [stepWith_accept cfg hr hv hw hin, hstep]
  cases hl with
  | silent | event => exact ⟨_, rfl, rfl, rfl⟩

/-- Every edge keeps the refinement, by the cases of R136. -/
theorem State.Refines.of_stepWith (h : s.Refines cfg) (hi : s.Inv cfg) (ht : stepWith cfg s = .next t) :
    t.Refines cfg := by
  cases hr : s.nextPins.rst with
  | true =>
    cases (State.cycle_reset hr).symm.trans ht
    exact ⟨rfl, rfl⟩
  | false =>
  cases hv : s.evtValid with
  | true =>
    cases (stepWith_pending hr hv).symm.trans ht
    exact h.consumer_edge hi hv s.nextPins
  | false =>
  by_cases hw : s.evtWait = 0
  case neg =>
    cases (State.cycle_waiting hr hv hw).symm.trans ht
    exact h.waiting_edge hw
  cases hin : s.nextPins.inValid with
  | true => exact h.accept hi hv hw ((stepWith_accept cfg hr hv hw hin).symm.trans ht)
  | false =>
    cases (State.cycle_hold hr hv hw hin).symm.trans ht
    exact .of_idle h.abstract hv hw (h.events_of_idle hv hw)

/-- From the invariant and the refinement every run goes on and keeps both. -/
theorem State.Refines.runWith_keeps (h : s.Refines cfg) (hi : s.Inv cfg) (k : Nat) :
    ∃ t, runWith cfg k s = .next t ∧ t.Inv cfg ∧ t.Refines cfg := by
  induction k generalizing s with
  | zero => exact ⟨s, rfl, hi, h⟩
  | succ k ih =>
    obtain ⟨t, ht, hit⟩ := hi.stepWith_keeps
    rw [runWith_succ, ht, andThen_next]
    exact ih (h.of_stepWith hi ht) hit

end

end Sys2Proof.Machine

section
open Sys2Proof Sys2Proof.Machine

/-- Settles O34: each case of the edge keeps the refinement, and reset, whatever pins are scheduled, meets it and the invariant. -/
theorem machineStepKeepsTheRefinement : Obligations.MachineStepKeepsTheRefinement := by
  unfold Obligations.MachineStepKeepsTheRefinement
  refine ⟨fun cfg s t hi h ht => h.of_stepWith hi ht, fun cfg pins k => ?_⟩
  have hinv : State.Inv cfg { State.reset with pins := pins } := .of_idle (Parser.inv_reset cfg) rfl rfl rfl
  have href : State.Refines cfg { State.reset with pins := pins } := ⟨rfl, rfl⟩
  exact href.runWith_keeps hinv k

/-- Settles O54: the refinement makes the released event the last one emitted, and the invariant gives the next byte a step. -/
theorem acknowledgeReleasesAndReopensTheInput : Obligations.AcknowledgeReleasesAndReopensTheInput := by
  unfold Obligations.AcknowledgeReleasesAndReopensTheInput
  intro s hinv href hv hr ha
  have hw : s.evtWait = 0 := hinv.oneEvent hv
  have hev := href.events_of_busy (State.busy_iff.mpr (.inl hv))
  have hrel := hinv.released_shown hv
  refine ⟨(s.shown Config.standard).release, s.pendingEvent Config.standard, ?_, rfl, by simp [State.ready, hw], rfl,
    rfl, rfl, hrel, by rw [hev, List.getLast?_concat], hrel.trans hev.symm, rfl, fun q rest hq hqr hqi => ?_⟩
  · rw [step_pending hr hv, State.consumerEdge_ack _ _ _ ha]
  · have hnext : (s.shown Config.standard).release.nextPins = q := State.nextPins_of_cons hq
    rw [← hnext] at hqr hqi ⊢
    rw [← stepWith_standard]
    exact stepWith_accept_next hinv.parser hqr rfl hw hqi

end

/-! # The codes of the events

The codes are those of R142, and an event raised at latency 1 is in the event register with the raising edge (R136). With these O57 is
settled. -/

namespace Sys2Proof.Machine

/-- At latency 1 `evt_valid` rises with the edge that raises the event (R136). -/
theorem State.raise_evtValid_of_latency_one {cfg : Config} (s : State) (e : Event) (hlat : cfg.evtLatency = 1) :
    (s.raise cfg e).evtValid = true := by
  rw [State.raise_evtValid, hlat]
  rfl

end Sys2Proof.Machine

section
open Sys2Proof Sys2Proof.Machine

/-- Settles O57: the codes by definition, the register by the write rules of `raise`, the two outputs by those of `driveEvent`. -/
theorem eventKindCodes : Obligations.EventKindCodes := by
  unfold Obligations.EventKindCodes
  refine ⟨fun _ _ => rfl, fun _ => rfl, rfl, rfl, fun cfg s e hlat => ?raised, fun cfg a s => ?driven⟩
  case raised => exact ⟨State.raise_evtValid_of_latency_one s e hlat, State.raise_evtKind cfg s e⟩
  case driven => exact ⟨State.driveEvent_ports_evtKind cfg a s, State.driveEvent_ports_evtLen cfg a s⟩

end

/-! # A stray first sync byte

A byte that misses the second sync byte is spent: it does not count as a first sync byte of its own (R90, R166). With this O50 is
settled. -/

namespace Sys2Proof.Machine

/-- A lone SYNC1 and whatever byte follows it instead of SYNC2 are both discarded, and the parser hunts again (R87, R90). -/
theorem Parser.decode_sync1_miss (cfg : Config) {p : Parser} {b : Byte} (hp : p.phase = .awaitingSync1) (hb : b ≠ SYNC2) :
    ∃ q, Parser.decode cfg p [SYNC1, b] = .next (q, []) ∧ q.phase = .awaitingSync1 :=
  ⟨_, Parser.decode_cons (Parser.step_sync1Hit cfg hp) (Parser.decode_singleton (Parser.step_sync2Miss cfg rfl hb)), rfl⟩

end Sys2Proof.Machine

section
open Sys2Proof Sys2Proof.Machine

/-- Settles O50: the second 0x05 is spent as a miss of SYNC2, so the 0x64 finds the parser hunting and is skipped. -/
theorem doubledSyncByteLosesTheFrame : Obligations.DoubledSyncByteLosesTheFrame := by
  unfold Obligations.DoubledSyncByteLosesTheFrame
  intro cfg p hp
  obtain ⟨q, hmiss, hq⟩ := Parser.decode_sync1_miss cfg (b := SYNC1) hp (by decide)
  have hskip : q.step cfg SYNC2 = .next (q, []) := Parser.step_sync1Skip cfg hq (by decide)
  exact ⟨q, Parser.decode_append hmiss (Parser.decode_singleton hskip), hq⟩

end
